-- ==== Sys2Proof/Word.lean ====
section
/-! DEFINITION. The words of the link core: bytes, byte strings and peer identifiers (00 R13, 20 R64). -/

namespace Sys2Proof

/-- A byte (00 R13). -/
abbrev Byte := BitVec 8

/-- A byte string, first byte first (00 R13). -/
abbrev Bytes := List (BitVec 8)

/-- A PeerId, six bytes, the first the most significant of the 48 bits (20 R64). -/
abbrev PeerId := BitVec 48

end Sys2Proof
end

