-- ==== Sys2Proof/Config.lean ====
section
/-! DEFINITION. What is fixed when an instance is built (00 R8), what the decoder needs of it and of the
committed configuration (30 R97), the shape of what the request lines present (30 R101, 00 R12), and the one free
value. -/

namespace Sys2Proof

/-- The static parameters of an instance (00 R8). They are held in State and never written, so every statement
holds for every value of them. DESIGN CHOICE, log 1. -/
structure Params where
  /-- `FLAG_DATA`, D2. -/
  flagData : Byte
  /-- `FLAG_ACK`, D2. -/
  flagAck : Byte
  /-- `FLAG_SYNC`, D2. -/
  flagSync : Byte
  /-- `W_MAX`, D5. -/
  wMax : Nat
  /-- `MAX_PEERS`, D20: `none` is unbounded. -/
  maxPeers : Option Nat
  /-- `NORMALISE_ON_SLIDE`, D14. -/
  normaliseOnSlide : Bool
  /-- `TS_BITS`, D18. -/
  tsBits : Nat
  /-- `CTR_BITS`, D19. -/
  ctrBits : Nat
deriving DecidableEq, Repr

/-- The defaults of 00 R8. -/
def Params.default : Params :=
  { flagData := 0x01, flagAck := 0x02, flagSync := 0x03, wMax := 65535, maxPeers := none,
    normaliseOnSlide := true, tsBits := 64, ctrBits := 64 }

/-- The three flag values are pairwise different (00 R8, 30 R91). -/
def Params.flagsDiffer (p : Params) : Bool :=
  p.flagData != p.flagAck && p.flagData != p.flagSync && p.flagAck != p.flagSync

/-- What decoding depends on besides the bits: the flag values, the number of sequence bytes (30 R97) and the
width of a timestamp (00 R8). -/
structure Mode where
  /-- `FLAG_DATA`. -/
  flagData : Byte
  /-- `FLAG_ACK`. -/
  flagAck : Byte
  /-- `FLAG_SYNC`. -/
  flagSync : Byte
  /-- `SEQB`, 30 R94. -/
  seqb : Nat
  /-- `TS_BITS`. -/
  tsBits : Nat
deriving DecidableEq, Repr

/-- The three flag values of a mode are pairwise different (00 R8). -/
def Mode.flagsDiffer (m : Mode) : Bool :=
  m.flagData != m.flagAck && m.flagData != m.flagSync && m.flagAck != m.flagSync

/-- The mode of an unconfigured core with the default parameters: one sequence byte. Only frames read it. -/
def Mode.default : Mode :=
  { flagData := 0x01, flagAck := 0x02, flagSync := 0x03, seqb := 1, tsBits := 64 }

/-- The request lines (00 R9, 30 R101). `internal` is the core's own sequencer, on which a sub-operation is
executed alone. DESIGN CHOICE, log 4. -/
inductive Line
  | host
  | sendRole
  | receiveRole
  | internal
deriving DecidableEq, Repr

/-- The operand fields of a command; a command uses the fields its row of 30 R100 names ("operands are separate
fields, not packed"). DESIGN CHOICE, log 6. -/
structure Fields where
  /-- A register number. -/
  r : Nat
  /-- A register value. -/
  v : BitVec 48
  /-- The first PeerId (`d`, `p` or `src`). -/
  p : PeerId
  /-- The second PeerId (`dst`). -/
  q : PeerId
  /-- A number (`seq`, `ack`, `a` or `now`). -/
  n : Nat
  /-- A byte string (`s` or `payload`). -/
  s : Bytes
  /-- One byte. -/
  b : Byte
deriving DecidableEq, Repr

/-- Operand fields that are all zero. -/
def Fields.zero : Fields := { r := 0, v := 0, p := 0, q := 0, n := 0, s := [], b := 0 }

/-- What is presented to the core: a command byte with its operand fields on a request line (30 R101), or a
datagram on RXF (00 R12). -/
inductive Presented
  | command (line : Line) (code : Byte) (f : Fields)
  | datagram (bytes : Bytes)
deriving DecidableEq, Repr

/-- The free value: the number an acknowledgement is taken as when it lies above W, where 20 R71 and 42 R186 state no
result. It depends on how many such numbers came before and on the number itself, and nothing is known of it.
DESIGN CHOICE, log 11. -/
opaque Config.freeNumber : Nat → Nat → Nat

end Sys2Proof
end

