-- ==== Sys2Proof/Syntax.lean ====
section
/-! DEFINITION. The operations and frame kinds of spec/opcode_table.json (30 R100, R91), one constructor a row. -/

namespace Sys2Proof

/-- The 26 operations of 30 R100 and the three frame kinds of 30 R91. -/
inductive Instr
  /-- RESET, 70 R330. -/
  | reset
  /-- CFG.SET r, v, 44 R262. -/
  | cfgSet (r : Nat) (v : BitVec 48)
  /-- CFG.COMMIT, 44 R263. -/
  | cfgCommit
  /-- CSR.READ r, 44 R261. -/
  | csrRead (r : Nat)
  /-- RX.RUN, 44 R264. -/
  | rxRun
  /-- RX.STOP, 44 R265. -/
  | rxStop
  /-- SYNC.SEND d, 44 R266. -/
  | syncSend (d : PeerId)
  /-- TX.START d, 42 R182. -/
  | txStart (d : PeerId)
  /-- TX.POLL now, 42 R190. -/
  | txPoll (now : Nat)
  /-- TX.ABORT, 42 R201. -/
  | txAbort
  /-- RX.DGRAM s, 43 R221. -/
  | rxDgram (s : Bytes)
  /-- CRC16 s, 40 R124. -/
  | crc16 (s : Bytes)
  /-- CRC.CHK s, 40 R126. -/
  | crcChk (s : Bytes)
  /-- ENC.DATA src, dst, seq, payload, 41 R143. -/
  | encData (src dst : PeerId) (seq : Nat) (payload : Bytes)
  /-- ENC.ACK src, dst, ack, 41 R145. -/
  | encAck (src dst : PeerId) (ack : Nat)
  /-- ENC.SYNC src, dst, 41 R146. -/
  | encSync (src dst : PeerId)
  /-- DEC s, 41 R150. -/
  | dec (s : Bytes)
  /-- TX.SLIDE a, 42 R186. -/
  | txSlide (a : Nat)
  /-- TX.TOCHK now, 42 R189. -/
  | txTochk (now : Nat)
  /-- ACK.POST p, a, 20 R71. -/
  | ackPost (p : PeerId) (a : Nat)
  /-- ACK.DRAIN, 20 R72. -/
  | ackDrain
  /-- RX.DATA x with x = Data(src, dst, seq, payload), 43 R223. -/
  | rxData (src dst : PeerId) (seq : Nat) (payload : Bytes)
  /-- RX.ACK x with x = Ack(src, dst, ack), 43 R228. -/
  | rxAck (src dst : PeerId) (ack : Nat)
  /-- RX.SYNC x with x = Sync(src, dst), 43 R229. -/
  | rxSync (src dst : PeerId)
  /-- CRC.INIT, 40 R125. -/
  | crcInit
  /-- CRC.BYTE b, 40 R123. -/
  | crcByte (b : Byte)
  /-- FRAME.DATA, a Data frame on the wire with its check field, 30 R90 and R91. -/
  | frameData (src dst : PeerId) (seq : Nat) (payload : Bytes) (crc : BitVec 16)
  /-- FRAME.ACK, an Ack frame on the wire with its check field, 30 R90 and R91. -/
  | frameAck (src dst : PeerId) (ack : Nat) (crc : BitVec 16)
  /-- FRAME.SYNC, a Sync frame on the wire with its reserved sequence field and its check field, 30 R90 and R91. -/
  | frameSync (src dst : PeerId) (reserved : Nat) (crc : BitVec 16)
deriving DecidableEq, Repr

end Sys2Proof
end

