-- ==== Sys2Proof/WellFormed.lean ====
section
/-! DEFINITION. The operands an encoding can carry: a register value fits its register (44 R262), a timestamp fits
`TS_BITS` bits (42 R190), the sequence field of a frame fits its SEQB bytes (30 R95). -/

namespace Sys2Proof

/-- `v` fits configuration register `r`: 0x00 to 0x03 are 32 bits wide, 0x04 is 48 (10 R40). -/
def valueFits (r : Nat) (v : BitVec 48) : Bool := 4 ≤ r || v.toNat < 2 ^ 32

/-- The operands of `i` fit the fields that carry them. -/
def wellFormed (m : Mode) : Instr → Bool
  | .reset => true
  | .cfgSet r v => valueFits r v
  | .cfgCommit => true
  | .csrRead _ => true
  | .rxRun => true
  | .rxStop => true
  | .syncSend _ => true
  | .txStart _ => true
  | .txPoll now => now < 2 ^ m.tsBits
  | .txAbort => true
  | .rxDgram _ => true
  | .crc16 _ => true
  | .crcChk _ => true
  | .encData _ _ _ _ => true
  | .encAck _ _ _ => true
  | .encSync _ _ => true
  | .dec _ => true
  | .txSlide _ => true
  | .txTochk now => now < 2 ^ m.tsBits
  | .ackPost _ _ => true
  | .ackDrain => true
  | .rxData _ _ _ _ => true
  | .rxAck _ _ _ => true
  | .rxSync _ _ => true
  | .crcInit => true
  | .crcByte _ => true
  | .frameData _ _ seq _ _ => seq < 256 ^ m.seqb
  | .frameAck _ _ ack _ => ack < 256 ^ m.seqb
  | .frameSync _ _ reserved _ => reserved < 256 ^ m.seqb

end Sys2Proof
end

