-- ==== Sys2Proof/Decode.lean ====
section
/-! DEFINITION. Byte order (20 R64), the decoder of commands (30 R100, R101) and of wire frames (30 R90 to R97),
total on every input and rejecting by name, and the encoder of both. -/

namespace Sys2Proof

/-! ## Byte order -/

/-- `be_n(v)`, the n-byte big-endian byte string of `v`, high bits beyond n bytes dropped (00 R15). -/
def beBytes : Nat → Nat → Bytes
  | 0, _ => []
  | n + 1, v => BitVec.ofNat 8 (v / 256 ^ n) :: beBytes n v

/-- `unbe(s)`, the number whose big-endian byte string is `s` (00 R15). -/
def unbe (s : Bytes) : Nat := s.foldl (fun acc b => acc * 256 + b.toNat) 0

/-- `s[i..j)` (00 R13). -/
def slice (s : Bytes) (i j : Nat) : Bytes := (s.drop i).take (j - i)

/-- The six bytes of a PeerId, most significant first (20 R64). -/
def peerBytes (p : PeerId) : Bytes := beBytes 6 p.toNat

/-- The PeerId whose bytes are `s` (20 R64). -/
def peerOf (s : Bytes) : PeerId := BitVec.ofNat 48 (unbe s)

/-! ## The wire layout -/

/-- The bytes of a frame before its check field (30 R90). -/
def frameBody (seqb : Nat) (flag : Byte) (src dst : PeerId) (v : Nat) (payload : Bytes) : Bytes :=
  [flag] ++ peerBytes src ++ peerBytes dst ++ beBytes seqb v ++ payload

/-- A whole frame with the check field `crc`, high byte first (30 R90, R96). -/
def frameBytes (seqb : Nat) (flag : Byte) (src dst : PeerId) (v : Nat) (payload : Bytes) (crc : BitVec 16) : Bytes :=
  frameBody seqb flag src dst v payload ++ beBytes 2 crc.toNat

/-- The `src` field, bytes 1 to 6 (30 R90, 41 R154). -/
def fieldSrc (s : Bytes) : PeerId := peerOf (slice s 1 7)

/-- The `dst` field, bytes 7 to 12 (30 R90, 41 R154). -/
def fieldDst (s : Bytes) : PeerId := peerOf (slice s 7 13)

/-- The sequence field, SEQB bytes from offset 13 (30 R95, 41 R154). -/
def fieldSeq (seqb : Nat) (s : Bytes) : Nat := unbe (slice s 13 (13 + seqb))

/-- The payload: what lies between the sequence field and the last two bytes (30 R97, 41 R154). -/
def fieldPayload (seqb : Nat) (s : Bytes) : Bytes := slice s (13 + seqb) (s.length - 2)

/-- The check field, the last two bytes, high byte first (30 R96). -/
def fieldCrc (s : Bytes) : BitVec 16 := BitVec.ofNat 16 (unbe (slice s (s.length - 2) s.length))

/-- `MINF` (30 R92). -/
def minFrame (seqb : Nat) : Nat := 15 + seqb

/-! ## Decoding -/

/-- The line of the agent a request is served for: the line it came in on; a datagram, and RX.DGRAM (0x20) on whatever
line, belong to the receive role, which alone gets their statuses (44 R260, R270). -/
def Presented.line : Presented → Line
  | .command l code _ => if code = 0x20 then .receiveRole else l
  | .datagram _ => .receiveRole

/-- Why a request is no operation and no frame. -/
inductive Reject
  /-- A command byte that 30 R100 does not list (30 R101). -/
  | unknownCode (code : Byte)
  /-- A sub-operation code presented by an agent (30 R101). -/
  | subOperation (code : Byte)
  /-- A datagram of no bytes (30 R98). -/
  | emptyDatagram
  /-- A flag byte that is none of the three (30 R98). -/
  | unknownFlag (flag : Byte)
  /-- A recognised flag on a datagram that has no room for its fields, or an Ack or Sync of another length
  than MINF (30 R92, R98). -/
  | frameLength (flag : Byte) (len : Nat)
deriving DecidableEq, Repr

/-- The operation a command byte names, with its operands (30 R100). -/
def decodeCommand (code : Byte) (f : Fields) : Except Reject Instr :=
  match code.toNat with
  | 0x00 => .ok .reset
  | 0x01 => .ok (.cfgSet f.r f.v)
  | 0x02 => .ok .cfgCommit
  | 0x03 => .ok (.csrRead f.r)
  | 0x04 => .ok .rxRun
  | 0x05 => .ok .rxStop
  | 0x06 => .ok (.syncSend f.p)
  | 0x10 => .ok (.txStart f.p)
  | 0x11 => .ok (.txPoll f.n)
  | 0x12 => .ok .txAbort
  | 0x20 => .ok (.rxDgram f.s)
  | 0x30 => .ok (.crc16 f.s)
  | 0x31 => .ok (.crcChk f.s)
  | 0x40 => .ok (.encData f.p f.q f.n f.s)
  | 0x41 => .ok (.encAck f.p f.q f.n)
  | 0x42 => .ok (.encSync f.p f.q)
  | 0x43 => .ok (.dec f.s)
  | 0x80 => .ok (.txSlide f.n)
  | 0x81 => .ok (.txTochk f.n)
  | 0x82 => .ok (.ackPost f.p f.n)
  | 0x83 => .ok .ackDrain
  | 0x84 => .ok (.rxData f.p f.q f.n f.s)
  | 0x85 => .ok (.rxAck f.p f.q f.n)
  | 0x86 => .ok (.rxSync f.p f.q)
  | 0x88 => .ok .crcInit
  | 0x89 => .ok (.crcByte f.b)
  | _ => .error (.unknownCode code)

/-- The frame a datagram spells, by its flag byte alone (30 R91) and its length (30 R92, R97). The check field, the
range of the number and the addresses are not judged here: that is RX.DGRAM's work (41 R150). -/
def decodeFrame (m : Mode) (s : Bytes) : Except Reject Instr :=
  match s with
  | [] => .error .emptyDatagram
  | f :: _ =>
    if f = m.flagData then
      if s.length < minFrame m.seqb then .error (.frameLength f s.length)
      else .ok (.frameData (fieldSrc s) (fieldDst s) (fieldSeq m.seqb s) (fieldPayload m.seqb s) (fieldCrc s))
    else if f = m.flagAck then
      if s.length ≠ minFrame m.seqb then .error (.frameLength f s.length)
      else .ok (.frameAck (fieldSrc s) (fieldDst s) (fieldSeq m.seqb s) (fieldCrc s))
    else if f = m.flagSync then
      if s.length ≠ minFrame m.seqb then .error (.frameLength f s.length)
      else .ok (.frameSync (fieldSrc s) (fieldDst s) (fieldSeq m.seqb s) (fieldCrc s))
    else .error (.unknownFlag f)

/-- The decoder: a command or a datagram. A sub-operation code is refused on every line but `internal` (30 R101). -/
def decode (m : Mode) : Presented → Except Reject Instr
  | .command line code f =>
    match decodeCommand code f with
    | .error e => .error e
    | .ok i => if 0x80 ≤ code.toNat ∧ line ≠ .internal then .error (.subOperation code) else .ok i
  | .datagram s => decodeFrame m s

/-! ## Encoding -/

/-- The command byte of an operation (30 R100), or the flag byte of a frame (30 R91). -/
def codeOf (m : Mode) : Instr → Byte
  | .reset => 0x00
  | .cfgSet _ _ => 0x01
  | .cfgCommit => 0x02
  | .csrRead _ => 0x03
  | .rxRun => 0x04
  | .rxStop => 0x05
  | .syncSend _ => 0x06
  | .txStart _ => 0x10
  | .txPoll _ => 0x11
  | .txAbort => 0x12
  | .rxDgram _ => 0x20
  | .crc16 _ => 0x30
  | .crcChk _ => 0x31
  | .encData _ _ _ _ => 0x40
  | .encAck _ _ _ => 0x41
  | .encSync _ _ => 0x42
  | .dec _ => 0x43
  | .txSlide _ => 0x80
  | .txTochk _ => 0x81
  | .ackPost _ _ => 0x82
  | .ackDrain => 0x83
  | .rxData _ _ _ _ => 0x84
  | .rxAck _ _ _ => 0x85
  | .rxSync _ _ => 0x86
  | .crcInit => 0x88
  | .crcByte _ => 0x89
  | .frameData _ _ _ _ _ => m.flagData
  | .frameAck _ _ _ _ => m.flagAck
  | .frameSync _ _ _ _ => m.flagSync

/-- The line the agent that issues an operation uses (30 R100, "issued by"); a pure operation, which any agent may
issue, is encoded for the host. -/
def lineOf : Instr → Line
  | .reset => .host
  | .cfgSet _ _ => .host
  | .cfgCommit => .host
  | .csrRead _ => .host
  | .rxRun => .host
  | .rxStop => .host
  | .syncSend _ => .host
  | .txStart _ => .host
  | .txPoll _ => .sendRole
  | .txAbort => .host
  | .rxDgram _ => .receiveRole
  | .crc16 _ => .host
  | .crcChk _ => .host
  | .encData _ _ _ _ => .host
  | .encAck _ _ _ => .host
  | .encSync _ _ => .host
  | .dec _ => .host
  | .txSlide _ => .internal
  | .txTochk _ => .internal
  | .ackPost _ _ => .internal
  | .ackDrain => .internal
  | .rxData _ _ _ _ => .internal
  | .rxAck _ _ _ => .internal
  | .rxSync _ _ => .internal
  | .crcInit => .internal
  | .crcByte _ => .internal
  | .frameData _ _ _ _ _ => .receiveRole
  | .frameAck _ _ _ _ => .receiveRole
  | .frameSync _ _ _ _ => .receiveRole

/-- The operand fields of an operation; the fields it does not use are zero (30 R100). -/
def fieldsOf : Instr → Fields
  | .reset => Fields.zero
  | .cfgSet r v => { Fields.zero with r := r, v := v }
  | .cfgCommit => Fields.zero
  | .csrRead r => { Fields.zero with r := r }
  | .rxRun => Fields.zero
  | .rxStop => Fields.zero
  | .syncSend d => { Fields.zero with p := d }
  | .txStart d => { Fields.zero with p := d }
  | .txPoll now => { Fields.zero with n := now }
  | .txAbort => Fields.zero
  | .rxDgram s => { Fields.zero with s := s }
  | .crc16 s => { Fields.zero with s := s }
  | .crcChk s => { Fields.zero with s := s }
  | .encData src dst seq payload => { Fields.zero with p := src, q := dst, n := seq, s := payload }
  | .encAck src dst ack => { Fields.zero with p := src, q := dst, n := ack }
  | .encSync src dst => { Fields.zero with p := src, q := dst }
  | .dec s => { Fields.zero with s := s }
  | .txSlide a => { Fields.zero with n := a }
  | .txTochk now => { Fields.zero with n := now }
  | .ackPost p a => { Fields.zero with p := p, n := a }
  | .ackDrain => Fields.zero
  | .rxData src dst seq payload => { Fields.zero with p := src, q := dst, n := seq, s := payload }
  | .rxAck src dst ack => { Fields.zero with p := src, q := dst, n := ack }
  | .rxSync src dst => { Fields.zero with p := src, q := dst }
  | .crcInit => Fields.zero
  | .crcByte b => { Fields.zero with b := b }
  | .frameData _ _ _ _ _ => Fields.zero
  | .frameAck _ _ _ _ => Fields.zero
  | .frameSync _ _ _ _ => Fields.zero

/-- What presents the operation, or the datagram that is the frame (30 R90, R101). -/
def encode (m : Mode) (i : Instr) : Presented :=
  match i with
  | .frameData src dst seq payload crc => .datagram (frameBytes m.seqb m.flagData src dst seq payload crc)
  | .frameAck src dst ack crc => .datagram (frameBytes m.seqb m.flagAck src dst ack [] crc)
  | .frameSync src dst reserved crc => .datagram (frameBytes m.seqb m.flagSync src dst reserved [] crc)
  | _ => .command (lineOf i) (codeOf m i) (fieldsOf i)

/-! ## The opcode table's words -/

/-- The request line a bare command byte is presented on, by the "issued by" column of 30 R100: the core's own sequencer
for a sub-operation, the send role for TX.POLL, the receive role for RX.DGRAM, the host otherwise. -/
def wordLine (code : Byte) : Line :=
  if 0x80 ≤ code.toNat then .internal
  else if code = 0x11 then .sendRole
  else if code = 0x20 then .receiveRole
  else .host

/-- The `n` bytes of a word, the least significant first: the first byte of the table's numbering comes first. -/
def wordBytes : Nat → Nat → Bytes
  | 0, _ => []
  | n + 1, w => BitVec.ofNat 8 w :: wordBytes n (w / 256)

/-- What a word of `nbits` bits presents: a word as long as a frame can be, 16 bytes or more (30 R92), is the datagram
of its bytes; a shorter one is the command whose byte is its low byte, with operand fields of zeros. -/
def presentWord (nbits w : Nat) : Presented :=
  if 128 ≤ nbits then .datagram (wordBytes (nbits / 8) w)
  else .command (wordLine (BitVec.ofNat 8 w)) (BitVec.ofNat 8 w) Fields.zero

/-- The operation or frame the decoder reads from a word. The flag bytes of frames (0x01, 0x02, 0x03) are the same
numbers as three command bytes on another interface; a word of one byte is read as the command. DEDUCED, log 7. -/
def decodeTableWord (nbits w : Nat) : Option Instr :=
  if nbits < 8 then none
  else
    match decode Mode.default (presentWord nbits w) with
    | .ok i => some i
    | .error _ => none

end Sys2Proof
end

