-- ==== Sys2Proof/Machine/State.lean ====
section
/-! DEFINITION. The state of one link core (10 R20), the records that cross its interfaces (00 R12), the reasons a
step can stop, and the state after reset (70 R330, R331). -/

namespace Sys2Proof.Machine

/-! ## Names the spec gives to values -/

/-- Slot status (10 R23). -/
inductive SlotStatus
  | new
  | timedOut
  | retransmitted
deriving DecidableEq, Repr

/-- The sender's state (10 R29). -/
inductive TxState
  | idle
  | fill
  | drain
  | done
deriving DecidableEq, Repr

/-- The three kinds of frame (30 R91). -/
inductive FrameKind
  | data
  | ack
  | sync
deriving DecidableEq, Repr

/-- A frame value (41 R140). -/
inductive FrameVal
  | data (src dst : PeerId) (seq : Nat) (payload : Bytes)
  | ack (src dst : PeerId) (ack : Nat)
  | sync (src dst : PeerId)
deriving DecidableEq, Repr

/-- Status and result codes by name (60 R290). -/
inductive Status
  | ok
  | formatError
  | integrityError
  | addressMismatch
  | sequenceMismatch
  | configurationError
  | peerIdentityCollision
  | lengthError
  | rangeError
  | tableFull
  | stateError
  | pollDone
  | pollRewind
  | pollIdle
  | pollSkip
  | pollSent
  | okData
  | okAck
  | okSync
deriving DecidableEq, Repr

/-- The value an operation returns beside its status (30 R100 "returns", 42 R200). -/
inductive Value
  /-- No value. -/
  | none
  /-- CSR.READ: a register, zero-extended to 64 bits (44 R261). -/
  | register (v : BitVec 64)
  /-- CRC16: the check value (40 R124). -/
  | crc (v : BitVec 16)
  /-- CRC.CHK and TX.TOCHK: one bit (40 R126, 42 R189). -/
  | bit (b : Bool)
  /-- ENC.DATA, ENC.ACK, ENC.SYNC: the frame (41 R142). -/
  | bytes (s : Bytes)
  /-- DEC: the frame value (41 R157). -/
  | frame (x : FrameVal)
  /-- ACK.DRAIN: the whole map (20 R72). -/
  | map (m : List (Nat × Nat))
  /-- POLL_DONE(a), POLL_REWIND(b), POLL_SKIP(k): a sequence number (42 R200). -/
  | number (k : Nat)
  /-- POLL_SENT(k, status) (42 R200). -/
  | sent (k : Nat) (status : SlotStatus)
deriving DecidableEq, Repr

/-- The recorded information of a LOG record (`info`: 42 R200; 43 R223, R228, R229; 44 R266;
60 R291 to R301). DESIGN CHOICE, log 16, where the spec leaves the fields open. -/
inductive LogInfo
  /-- 60 R291: the flag byte found and the datagram length. -/
  | format (flag : Byte) (len : Nat)
  /-- 60 R292: the CRC computed and the CRC carried. -/
  | integrity (computed carried : BitVec 16)
  /-- 60 R293: `src`, `dst`, kind. -/
  | address (src dst : PeerId) (kind : FrameKind)
  /-- 43 R223, 60 R294: `src`, `seq`, `expectedSeq`, the acknowledgement sent. -/
  | sequence (src : PeerId) (seq expected ack : Nat)
  /-- 60 R295: which test failed, 1 to 4, and the offending value. -/
  | config (test : Nat) (value : BitVec 32)
  /-- 60 R296: the command code. -/
  | command (code : Byte)
  /-- 60 R296 and 42 R200, a TX.POLL that is refused: the command code, `dest` and `u`; its result has no fields and no
  acknowledgement is consumed. -/
  | refusedPoll (code : Byte) (dest : PeerId) (u : Nat)
  /-- 60 R297: the PeerId. -/
  | collision (p : PeerId)
  /-- 60 R298: the length and the flag byte, if any. -/
  | length (len : Nat) (flag : Option Byte)
  /-- 60 R299: the number and W. -/
  | range (number w : Nat)
  /-- 60 R301, 43 R229, 44 R266: the peer. -/
  | peer (p : PeerId)
  /-- 43 R228: the peer and the acknowledged number. -/
  | ack (src : PeerId) (ack : Nat)
  /-- 42 R200: the result's fields, `dest`, `u` after the poll, the acknowledgement consumed if any. -/
  | poll (result : Value) (dest : PeerId) (u : Nat) (ack : Option Nat)
deriving DecidableEq, Repr

/-- What a LOG record is about: the fields that 60 R315 and D32 give every record, each where the decision has one.
DESIGN CHOICE, log 16, where the spec leaves open which decision has which. -/
structure LogSubject where
  /-- The other peer of the decision. -/
  peer : Option PeerId := none
  /-- The sequence number. -/
  seq : Option Nat := none
  /-- The slot status (10 R23). -/
  slot : Option SlotStatus := none
  /-- The acknowledgement. -/
  ack : Option Nat := none
deriving DecidableEq, Repr

/-- How a test of DEC fails: the status, and what is recorded (41 R150, 60 R300). -/
structure Failure where
  status : Status
  info : LogInfo
  subject : LogSubject
deriving DecidableEq, Repr

/-! ## Transactions of the interfaces (00 R12) -/

/-- One LOG record (60 R315, D32). -/
structure LogRecord where
  /-- The code of the operation that writes the record. -/
  op : Byte
  status : Status
  info : LogInfo
  subject : LogSubject
deriving DecidableEq, Repr

/-- One TXF transaction. -/
structure Emission where
  bytes : Bytes
  kind : FrameKind
  impaired : Bool
deriving DecidableEq, Repr

/-- One SINK transaction. -/
structure Delivery where
  srcPeer : PeerId
  payload : Bytes
deriving DecidableEq, Repr

/-- One answer of the payload source SRC (42 R181). -/
inductive SrcAnswer
  | chunk (c : Bytes)
  | eos
deriving DecidableEq, Repr

/-- What an operation returns to the agent that issued it (60 R290, R300). -/
structure Response where
  /-- The request line of the issuer. -/
  line : Line
  status : Status
  value : Value
deriving DecidableEq, Repr

/-! ## State -/

/-- One slot of the sender window (10 R22). `sendTime` is kept modulo 2^TS_BITS. -/
structure Slot where
  valid : Bool
  frame : Bytes
  flen : BitVec 13
  stamped : Bool
  sendTime : Nat
  status : SlotStatus
deriving DecidableEq, Repr

/-- A slot at its reset values (10 R22); its frame storage, which reset leaves unspecified and which nothing can
read, is the empty string. DESIGN CHOICE, log 13. -/
def Slot.blank : Slot :=
  { valid := false, frame := [], flen := 0, stamped := false, sendTime := 0, status := .new }

/-- The configuration registers (10 R40). -/
structure CfgRegs where
  /-- `CFG_W`, 0x00. -/
  w : BitVec 32
  /-- `CFG_MAXP`, 0x01. -/
  maxp : BitVec 32
  /-- `CFG_INIT`, 0x02. -/
  initSeq : BitVec 32
  /-- `CFG_TMO`, 0x03. -/
  tmo : BitVec 32
  /-- `CFG_LOCAL`, 0x04. -/
  localId : PeerId
deriving DecidableEq, Repr

/-- The control bits and the derived registers (10 R41). -/
structure Control where
  /-- `RX_EN`. -/
  rxEn : Bool
  /-- `CFG_VALID`. -/
  cfgValid : Bool
  /-- `SEQ_MOD`, 0x10. -/
  seqMod : BitVec 32
  /-- `SEQ_BYTES`, 0x11. -/
  seqBytes : BitVec 8
deriving DecidableEq, Repr

/-- The sender window (10 R21 to R31, R34). Slots are listed by index, strictly rising, and an index that is not
listed is a blank slot. Indices are plain numbers, log 18; the counters are kept modulo 2^CTR_BITS. -/
structure Sender where
  slots : List (Nat × Slot)
  dest : PeerId
  unusedPoint : Nat
  cursor : Nat
  eosValid : Bool
  eos : Nat
  exhausted : Bool
  aborted : Bool
  txState : TxState
  framesSent : Nat
  bytesSent : Nat
deriving DecidableEq, Repr

/-- Hidden state (10 R37): the CRC accumulator (40 R121), the receive buffer with the true length of its datagram
(20 R61) and the transmit staging buffer (20 R62). -/
structure Hidden where
  acc : BitVec 16
  rxbuf : Bytes
  rxlen : Nat
  txbuf : Bytes
deriving DecidableEq, Repr

/-- One link core (10 R20) with its static parameters (00 R8) and its interfaces (00 R12). -/
structure State where
  /-- Static parameters; no step writes them. -/
  par : Params
  cfg : CfgRegs
  ctl : Control
  tx : Sender
  /-- Receiver table (10 R35): PeerId, as a number, to `expectedSeq`; keys strictly rising. -/
  rxTab : List (Nat × Nat)
  /-- Ack table (10 R36): PeerId, as a number, to the last acknowledgement; keys strictly rising. -/
  ackTab : List (Nat × Nat)
  hid : Hidden
  /-- What the agents and RXF present next, oldest first (20 R74). Log 3. -/
  requests : List Presented
  /-- The line of the request being served. Log 4. -/
  line : Line
  /-- The answers SRC will give (42 R181). Log 9. -/
  src : List SrcAnswer
  /-- Everything emitted on TXF, oldest first. Log 14. -/
  txf : List Emission
  /-- Everything delivered on SINK, oldest first. Log 14. -/
  sink : List Delivery
  /-- Every LOG record, oldest first. Log 14. -/
  log : List LogRecord
  /-- What the last operation returned. Log 15. -/
  resp : Option Response
  /-- The model's own counter: how many numbers above W have been taken, the argument of `Config.freeNumber`. Log 11. -/
  free : Nat
deriving DecidableEq, Repr

/-! ## Stops -/

/-- Why the machine stops. The block itself never traps (60 R305): the one reason is an input to which the spec gives
no effect. -/
inductive Fault
  /-- Raised by TX.START, TX.SLIDE and TX.POLL when SRC answers a chunk longer than MAXP. The contract of SRC rules
  it out and the spec gives those operations no behaviour for it (42 R181, 93 U3 "stuck"). Safe: nothing is
  proved of such a run. Log 10. -/
  | srcChunkTooLong (len : Nat)
deriving DecidableEq, Repr

/-- Why the model gives no meaning. -/
inductive Refusal
  /-- Raised by an arm of `exec` that has no meaning yet; none is left. Safe. -/
  | notModelled (mnemonic : String)
deriving DecidableEq, Repr

/-! ## Reset -/

/-- The sender window after reset (70 R330, R331). -/
def Sender.reset : Sender :=
  { slots := [], dest := 0, unusedPoint := 0, cursor := 0, eosValid := false, eos := 0, exhausted := false,
    aborted := false, txState := .idle, framesSent := 0, bytesSent := 0 }

/-- The configuration registers after reset (10 R40). -/
def CfgRegs.reset : CfgRegs := { w := 0, maxp := 0, initSeq := 0, tmo := 0, localId := 0 }

/-- The control registers after reset (10 R41). -/
def Control.reset : Control := { rxEn := false, cfgValid := false, seqMod := 0, seqBytes := 0 }

/-- The hidden state after reset, which the spec leaves unspecified and nothing can read (70 R332).
DESIGN CHOICE, log 12. -/
def Hidden.reset : Hidden := { acc := 0, rxbuf := [], rxlen := 0, txbuf := [] }

/-- The machine right after reset (70 R330, R331): unconfigured, stopped, IDLE, nothing presented, with the default
static parameters of 00 R8. The model's counter `free` starts at 0: DESIGN CHOICE, log 11. -/
def State.reset : State :=
  { par := Params.default, cfg := CfgRegs.reset, ctl := Control.reset, tx := Sender.reset, rxTab := [], ackTab := [],
    hid := Hidden.reset, requests := [], line := .host, src := [], txf := [], sink := [], log := [], resp := none,
    free := 0 }

end Sys2Proof.Machine
end

