-- ==== Sys2Proof/Machine/Operands.lean ====
section
/-! DEFINITION. The numbers operations are written in: cyclic arithmetic (00 R14), the committed configuration values
and what is derived from them (00 R6, R7; 30 R92, R94), and the codes of states and statuses. -/

namespace Sys2Proof.Machine

/-! ## Cyclic arithmetic, 00 R14 -/

/-- `add(a, k)` modulo `n`. -/
def cycAdd (n a k : Nat) : Nat := (a + k) % n

/-- `inc(a)` modulo `n`. -/
def cycInc (n a : Nat) : Nat := (a + 1) % n

/-- `cdist(a, b)`: the increments that lead from `a` to `b`, for `a` and `b` below `n`. -/
def cycDist (n a b : Nat) : Nat := (b + n - a) % n

/-- The `k` numbers that follow one another from `a` on. -/
def cycFrom (n a : Nat) : Nat → List Nat
  | 0 => []
  | k + 1 => a :: cycFrom n (cycInc n a) k

/-- `cyc[a, b)`. -/
def cycRange (n a b : Nat) : List Nat := cycFrom n a (cycDist n a b)

/-- `cyc(a, b]`. -/
def cycRangeOpen (n a b : Nat) : List Nat := cycRange n (cycInc n a) (cycInc n b)

/-! ## Committed configuration, 00 R6 and R7 -/

/-- SEQB for a window size below 2^32: the smallest n >= 1 with W + 1 <= 256^n (30 R94). Log 17. -/
def seqBytesOf (w : Nat) : Nat :=
  if w + 1 ≤ 256 then 1 else if w + 1 ≤ 256 ^ 2 then 2 else if w + 1 ≤ 256 ^ 3 then 3 else 4

/-- `W`. -/
def State.w (s : State) : Nat := s.cfg.w.toNat

/-- `N = W + 1`. Log 17. -/
def State.n (s : State) : Nat := s.w + 1

/-- `MAXP`. -/
def State.maxp (s : State) : Nat := s.cfg.maxp.toNat

/-- `INIT`. -/
def State.initSeq (s : State) : Nat := s.cfg.initSeq.toNat

/-- `TMO`. -/
def State.tmo (s : State) : Nat := s.cfg.tmo.toNat

/-- `LOCAL`. -/
def State.localId (s : State) : PeerId := s.cfg.localId

/-- `SEQB`, 30 R94. -/
def State.seqb (s : State) : Nat := seqBytesOf s.w

/-- `MINF`, 30 R92. -/
def State.minf (s : State) : Nat := minFrame s.seqb

/-- `MAXF`, 30 R92. -/
def State.maxf (s : State) : Nat := minFrame s.seqb + s.maxp

/-- What the decoder reads of the state (30 R97). -/
def State.mode (s : State) : Mode :=
  { flagData := s.par.flagData, flagAck := s.par.flagAck, flagSync := s.par.flagSync, seqb := s.seqb,
    tsBits := s.par.tsBits }

/-- `beginPoint = inc(unusedPoint)`, 10 R26. -/
def State.beginPoint (s : State) : Nat := cycInc s.n s.tx.unusedPoint

/-- A timestamp, kept modulo 2^TS_BITS (00 R8). -/
def State.stamp (s : State) (now : Nat) : Nat := now % 2 ^ s.par.tsBits

/-- A counter, kept modulo 2^CTR_BITS (10 R31). -/
def State.count (s : State) (k : Nat) : Nat := k % 2 ^ s.par.ctrBits

/-! ## Frame values, 41 R140 -/

/-- The source address of a frame value. -/
def frameSrc : FrameVal → PeerId
  | .data src _ _ _ => src
  | .ack src _ _ => src
  | .sync src _ => src

/-- The destination address of a frame value. -/
def frameDst : FrameVal → PeerId
  | .data _ dst _ _ => dst
  | .ack _ dst _ => dst
  | .sync _ dst => dst

/-- The kind of a frame value. -/
def frameKind : FrameVal → FrameKind
  | .data _ _ _ _ => .data
  | .ack _ _ _ => .ack
  | .sync _ _ => .sync

/-! ## Codes -/

/-- The code of a sender state, 10 R29. -/
def txStateCode : TxState → Nat
  | .idle => 0
  | .fill => 1
  | .drain => 2
  | .done => 3

/-- The code of a slot status, 10 R23. -/
def slotStatusCode : SlotStatus → BitVec 2
  | .new => 0
  | .timedOut => 1
  | .retransmitted => 2

/-- The code of a status, 60 R290. -/
def statusCode : Status → Byte
  | .ok => 0x00
  | .formatError => 0x01
  | .integrityError => 0x02
  | .addressMismatch => 0x03
  | .sequenceMismatch => 0x04
  | .configurationError => 0x05
  | .peerIdentityCollision => 0x06
  | .lengthError => 0x07
  | .rangeError => 0x08
  | .tableFull => 0x09
  | .stateError => 0x0A
  | .pollDone => 0x10
  | .pollRewind => 0x11
  | .pollIdle => 0x12
  | .pollSkip => 0x13
  | .pollSent => 0x14
  | .okData => 0x20
  | .okAck => 0x21
  | .okSync => 0x22

/-- The statuses that are errors: every operation that ends with one of them has done nothing else (60 R300, R305).
SequenceMismatch is a signal and not an error (60 R294). -/
def isError : Status → Bool
  | .ok => false
  | .formatError => true
  | .integrityError => true
  | .addressMismatch => true
  | .sequenceMismatch => false
  | .configurationError => true
  | .peerIdentityCollision => true
  | .lengthError => true
  | .rangeError => true
  | .tableFull => true
  | .stateError => true
  | .pollDone => false
  | .pollRewind => false
  | .pollIdle => false
  | .pollSkip => false
  | .pollSent => false
  | .okData => false
  | .okAck => false
  | .okSync => false

end Sys2Proof.Machine
end

