-- ==== Sys2Proof/Machine/Flags.lean ====
section
/-! DEFINITION. The status flags of 10 R34: every change of `exhausted`, `eosValid`, `aborted`, `CFG_VALID` and `RX_EN`
goes through a definition of this file, and so does every register that shows flags. -/

namespace Sys2Proof.Machine

/-- A transfer is active: `txState` is FILL or DRAIN (10 R29). -/
def State.active (s : State) : Bool := s.tx.txState == .fill || s.tx.txState == .drain

/-- SRC answered `EOS` when slot `i` was to be filled: `exhausted` and `eosValid` are set together and `eos` takes `i`
(10 R27, R28; 42 R184, R188). -/
def markExhausted (i : Nat) (s : State) : State :=
  { s with tx := { s.tx with exhausted := true, eosValid := true, eos := i } }

/-- TX.START clears `exhausted`, `eosValid`, `eos` and `aborted` (42 R183). -/
def clearTxFlags (s : State) : State :=
  { s with tx := { s.tx with exhausted := false, eosValid := false, eos := 0, aborted := false } }

/-- TX.ABORT sets `aborted` (42 R201). -/
def setAborted (s : State) : State := { s with tx := { s.tx with aborted := true } }

/-- `RX_EN`: set by RX.RUN, cleared by RX.STOP (44 R264, R265). -/
def setRxEn (b : Bool) (s : State) : State := { s with ctl := { s.ctl with rxEn := b } }

/-- `CFG_VALID`: cleared by CFG.SET, written by CFG.COMMIT (44 R262, R263). -/
def setCfgValid (b : Bool) (s : State) : State := { s with ctl := { s.ctl with cfgValid := b } }

/-- `CTRL`: bit 0 `RX_EN`, bit 1 `CFG_VALID` (10 R41). -/
def ctrlBits (s : State) : Nat := (if s.ctl.rxEn then 1 else 0) + (if s.ctl.cfgValid then 2 else 0)

/-- `TX_FLAGS`: bit 0 `exhausted`, bit 1 `aborted` (10 R41). -/
def txFlagBits (s : State) : Nat := (if s.tx.exhausted then 1 else 0) + (if s.tx.aborted then 2 else 0)

/-- `TX_EOS`: bit 16 `eosValid`, bits 15:0 `eos` (10 R41). -/
def txEosBits (s : State) : Nat := (if s.tx.eosValid then 65536 else 0) + s.tx.eos % 65536

end Sys2Proof.Machine
end

