-- ==== Sys2Proof/Machine/Ops.lean ====
section
/-! DEFINITION. The named operations over the slot file, the tables and the interfaces, and `raise`, the one shared
way an operation ends in an error (60 R300). Nothing is saved and there is no return from it (60 R305, R306). -/

namespace Sys2Proof.Machine

/-! ## Keyed storage in canonical form -/

/-- The entry of key `k`. -/
def tableFind {α : Type} : List (Nat × α) → Nat → Option α
  | [], _ => none
  | (k', v) :: rest, k => if k' = k then some v else tableFind rest k

/-- Writes the entry of key `k`, keeping the keys rising. -/
def tableInsert {α : Type} : List (Nat × α) → Nat → α → List (Nat × α)
  | [], k, v => [(k, v)]
  | (k', v') :: rest, k, v =>
    if k < k' then (k, v) :: (k', v') :: rest
    else if k = k' then (k, v) :: rest
    else (k', v') :: tableInsert rest k v

/-- Removes the entry of key `k`, with no effect if there is none. -/
def tableErase {α : Type} : List (Nat × α) → Nat → List (Nat × α)
  | [], _ => []
  | (k', v) :: rest, k => if k' = k then rest else (k', v) :: tableErase rest k

/-- The canonical form of a table: keys strictly rising. -/
def tableWf {α : Type} : List (Nat × α) → Bool
  | [] => true
  | (k, _) :: rest => rest.all (fun e => decide (k < e.1)) && tableWf rest

/-- The canonical form of the slot file: indices strictly rising and no blank slot listed. -/
def slotsWf (m : List (Nat × Slot)) : Bool := tableWf m && m.all (fun e => e.2 != Slot.blank)

/-- Slot `i`; an unlisted index is a blank slot (10 R22). -/
def slotRead (m : List (Nat × Slot)) (i : Nat) : Slot := (tableFind m i).getD Slot.blank

/-- Writes slot `i`; a blank slot is not listed. -/
def slotWrite (m : List (Nat × Slot)) (i : Nat) (v : Slot) : List (Nat × Slot) :=
  if v = Slot.blank then tableErase m i else tableInsert m i v

/-! ## Slots, 10 R22 -/

/-- `EMPTY`: `valid`, `stamped` and `flen` become 0 and `status` New; the other two fields keep what they hold, which
nothing reads (10 R22). -/
def slotEmptied (v : Slot) : Slot := { v with valid := false, stamped := false, flen := 0, status := .new }

/-- `slot[i] <- EMPTY` (10 R22). -/
def slotEmpty (m : List (Nat × Slot)) (i : Nat) : List (Nat × Slot) := slotWrite m i (slotEmptied (slotRead m i))

/-- `for i in 0 .. w: slot[i] <- EMPTY` (42 R183, R192, R201). -/
def slotsEmptyTo (w : Nat) : List (Nat × Slot) → List (Nat × Slot)
  | [] => []
  | (i, v) :: rest =>
    if w < i then (i, v) :: slotsEmptyTo w rest
    else if slotEmptied v = Slot.blank then slotsEmptyTo w rest
    else (i, slotEmptied v) :: slotsEmptyTo w rest

/-- Slot `i` of the window. -/
def State.slot (s : State) (i : Nat) : Slot := slotRead s.tx.slots i

/-- Writes slot `i` of the window. -/
def setSlot (i : Nat) (v : Slot) (s : State) : State := { s with tx := { s.tx with slots := slotWrite s.tx.slots i v } }

/-- `slot[i].sendTime <- unset`, that is `stamped <- 0` (10 R22). -/
def unstampSlot (i : Nat) (s : State) : State := setSlot i { s.slot i with stamped := false } s

/-- Every slot of the window is emptied ("window released", 42 R192, R201). -/
def releaseWindow (s : State) : State := { s with tx := { s.tx with slots := slotsEmptyTo s.w s.tx.slots } }

/-! ## Interfaces, 00 R12 -/

/-- The operation returns `status` and `value` to its issuer (60 R290). -/
def respond (status : Status) (value : Value) (s : State) : State :=
  { s with resp := some { line := s.line, status := status, value := value } }

/-- One LOG record (60 R315). -/
def writeLog (op : Byte) (status : Status) (info : LogInfo) (subject : LogSubject) (s : State) : State :=
  { s with log := s.log ++ [{ op := op, status := status, info := info, subject := subject }] }

/-- `TXF.emit(bytes, kind, impaired)` (00 R15). -/
def emitFrame (bytes : Bytes) (kind : FrameKind) (impaired : Bool) (s : State) : State :=
  { s with txf := s.txf ++ [{ bytes := bytes, kind := kind, impaired := impaired }] }

/-- `SINK.deliver(p, c)` (00 R15). -/
def deliver (p : PeerId) (c : Bytes) (s : State) : State :=
  { s with sink := s.sink ++ [{ srcPeer := p, payload := c }] }

/-- `SRC.pull()` (42 R181): the next answer and the answers that remain. A source with no answer left is exhausted.
DESIGN CHOICE, log 9. -/
def pullSrc : List SrcAnswer → SrcAnswer × List SrcAnswer
  | [] => (.eos, [])
  | a :: rest => (a, rest)

/-- `raise status(info)` (60 R300): the operation ends with `status`, writes no state and one LOG record. -/
def raise (op : Byte) (status : Status) (info : LogInfo) (subject : LogSubject) (s : State) : State :=
  respond status .none (writeLog op status info subject s)

/-- StateError (60 R296), recorded with the command code. -/
def raiseState (op : Byte) (subject : LogSubject) (s : State) : State := raise op .stateError (.command op) subject s

/-! ## Numbers above W -/

/-- The number in [0, W] that `a` is taken as: `a` itself, or a free value when `a` is above W (20 R71, 42 R186).
DESIGN CHOICE, log 11. -/
def numberTaken (a : Nat) (s : State) : Nat := if a ≤ s.w then a else Config.freeNumber s.free a % s.n

/-- The counter of free values moves on when `a` is above W. -/
def noteNumber (a : Nat) (s : State) : State := if a ≤ s.w then s else { s with free := s.free + 1 }

/-! ## Hidden state, 10 R37 -/

/-- The CRC unit leaves `v` in its accumulator (40 R121). -/
def setAcc (v : BitVec 16) (s : State) : State := { s with hid := { s.hid with acc := v } }

/-- A frame is built in the transmit staging buffer (20 R62). -/
def setTxbuf (f : Bytes) (s : State) : State := { s with hid := { s.hid with txbuf := f } }

/-- The datagram is copied into the receive buffer: its first MAXF bytes and its true length (20 R61). -/
def loadRxbuf (d : Bytes) (s : State) : State :=
  { s with hid := { s.hid with rxbuf := d.take s.maxf, rxlen := d.length } }

/-! ## Serving a request -/

/-- The state in which the request at the head of the queue is served: it is taken off and its line is noted. -/
def takeRequest (r : Presented) (rest : List Presented) (s : State) : State :=
  { s with requests := rest, line := r.line }

end Sys2Proof.Machine
end

