-- ==== Sys2Proof/Machine/Crc.lean ====
section
/-! DEFINITION. The CRC-16 unit (40 R120 to R129): CRC16, CRC.CHK, CRC.INIT, CRC.BYTE. -/

namespace Sys2Proof.Machine

/-- One bit step of the accumulator (40 R122). -/
def crcBitStep (acc : BitVec 16) : BitVec 16 :=
  if acc.getLsbD 15 then (acc <<< 1) ^^^ 0x1021#16 else acc <<< 1

/-- `k` bit steps. -/
def crcBitSteps : Nat → BitVec 16 → BitVec 16
  | 0, acc => acc
  | k + 1, acc => crcBitSteps k (crcBitStep acc)

/-- CRC.BYTE on the accumulator: the byte into the high half, then eight bit steps (40 R123). -/
def crcFold (acc : BitVec 16) (b : Byte) : BitVec 16 := crcBitSteps 8 (acc ^^^ (b.setWidth 16 <<< 8))

/-- The accumulator that CRC.INIT loads (40 R125). -/
def crcStart : BitVec 16 := 0xFFFF#16

/-- The accumulator after the bytes of `s`, from `acc` on (40 R124). -/
def crcFrom (acc : BitVec 16) (s : Bytes) : BitVec 16 := s.foldl crcFold acc

/-- `crc16(s)` (40 R124). Irreducible, so that the elaborator never runs a check value while it compares two terms. -/
@[irreducible] def crc16 (s : Bytes) : BitVec 16 := crcFrom crcStart s

/-- The bytes a check field covers: all but the last two (40 R126). -/
def crcCovered (s : Bytes) : Bytes := s.take (s.length - 2)

/-- The bit CRC.CHK returns (40 R126). -/
def crcMatches (s : Bytes) : Bool := crc16 (crcCovered s) == fieldCrc s

/-- CRC16 s (40 R124). -/
def execCrc16 (d : Bytes) (s : State) : Host.Outcome State Fault Refusal :=
  .next (respond .ok (.crc (crc16 d)) (setAcc (crc16 d) s))

/-- CRC.CHK s (40 R126). -/
def execCrcChk (d : Bytes) (s : State) : Host.Outcome State Fault Refusal :=
  if d.length < 2 then .next (raiseState 0x31 {} s)
  else .next (respond .ok (.bit (crcMatches d)) (setAcc (crc16 (crcCovered d)) s))

/-- CRC.INIT (40 R125). -/
def execCrcInit (s : State) : Host.Outcome State Fault Refusal :=
  .next (respond .ok .none (setAcc crcStart s))

/-- CRC.BYTE b (40 R123). -/
def execCrcByte (b : Byte) (s : State) : Host.Outcome State Fault Refusal :=
  .next (respond .ok .none (setAcc (crcFold s.hid.acc b) s))

end Sys2Proof.Machine
end

