-- ==== Sys2Proof/Machine/Codec.lean ====
section
/-! DEFINITION. The frame encoder and decoder (41 R140 to R160): ENC.DATA, ENC.ACK, ENC.SYNC, DEC. -/

namespace Sys2Proof.Machine

/-! ## Encoding -/

/-- The bytes a built frame's check field covers (41 R142). -/
def buildBody (flag : Byte) (src dst : PeerId) (v : Nat) (payload : Bytes) (s : State) : Bytes :=
  frameBody s.seqb flag src dst v payload

/-- `BUILD(flag, src, dst, v, payload)` (41 R142). -/
def buildFrame (flag : Byte) (src dst : PeerId) (v : Nat) (payload : Bytes) (s : State) : Bytes :=
  buildBody flag src dst v payload s ++ beBytes 2 (crc16 (buildBody flag src dst v payload s)).toNat

/-- `BUILD` outside a slot: the frame stands in the staging buffer and its check value in the accumulator
(20 R62, 40 R120). -/
def stageFrame (flag : Byte) (src dst : PeerId) (v : Nat) (payload : Bytes) (s : State) : State :=
  setTxbuf (buildFrame flag src dst v payload s) (setAcc (crc16 (buildBody flag src dst v payload s)) s)

/-- An encoder returns its frame (41 R143, R145, R146). -/
def returnFrame (flag : Byte) (src dst : PeerId) (v : Nat) (payload : Bytes) (s : State) : State :=
  respond .ok (.bytes (buildFrame flag src dst v payload s)) (stageFrame flag src dst v payload s)

/-- ENC.DATA src, dst, seq, payload (41 R143). -/
def execEncData (src dst : PeerId) (seq : Nat) (payload : Bytes) (s : State) : Host.Outcome State Fault Refusal :=
  let about : LogSubject := { peer := some dst, seq := some seq }
  if s.ctl.cfgValid = false then .next (raiseState 0x40 about s)
  else if src = dst then .next (raise 0x40 .peerIdentityCollision (.collision src) about s)
  else if s.w < seq then .next (raise 0x40 .rangeError (.range seq s.w) about s)
  else if s.maxp < payload.length then .next (raise 0x40 .lengthError (.length payload.length none) about s)
  else .next (returnFrame s.par.flagData src dst seq payload s)

/-- ENC.ACK src, dst, ack (41 R145). -/
def execEncAck (src dst : PeerId) (ack : Nat) (s : State) : Host.Outcome State Fault Refusal :=
  let about : LogSubject := { peer := some dst, ack := some ack }
  if s.ctl.cfgValid = false then .next (raiseState 0x41 about s)
  else if src = dst then .next (raise 0x41 .peerIdentityCollision (.collision src) about s)
  else if s.w < ack then .next (raise 0x41 .rangeError (.range ack s.w) about s)
  else .next (returnFrame s.par.flagAck src dst ack [] s)

/-- ENC.SYNC src, dst (41 R146). -/
def execEncSync (src dst : PeerId) (s : State) : Host.Outcome State Fault Refusal :=
  let about : LogSubject := { peer := some dst }
  if s.ctl.cfgValid = false then .next (raiseState 0x42 about s)
  else if src = dst then .next (raise 0x42 .peerIdentityCollision (.collision src) about s)
  else .next (returnFrame s.par.flagSync src dst 0 [] s)

/-! ## Decoding -/

/-- The length of `d` is none that a frame of its kind can have (60 R298). -/
def badLength (d : Bytes) : Failure := { status := .lengthError, info := .length d.length d.head?, subject := {} }

/-- The flag test and the length test of DEC (41 R151, R152): the kind of frame, or the status and what is recorded
(60 R291, R298). No field of the datagram is known yet. -/
def decHead (s : State) (d : Bytes) : Except Failure FrameKind :=
  match d with
  | [] => .error (badLength d)
  | f :: _ =>
    if f = s.par.flagData then
      if s.minf ≤ d.length ∧ d.length ≤ s.maxf then .ok .data
      else .error (badLength d)
    else if f = s.par.flagAck then
      if d.length = s.minf then .ok .ack else .error (badLength d)
    else if f = s.par.flagSync then
      if d.length = s.minf then .ok .sync else .error (badLength d)
    else .error { status := .formatError, info := .format f d.length, subject := {} }

/-- Parse and construct (41 R154, R157). -/
def decValue (s : State) (kind : FrameKind) (d : Bytes) : FrameVal :=
  match kind with
  | .data => .data (fieldSrc d) (fieldDst d) (fieldSeq s.seqb d) (fieldPayload s.seqb d)
  | .ack => .ack (fieldSrc d) (fieldDst d) (fieldSeq s.seqb d)
  | .sync => .sync (fieldSrc d) (fieldDst d)

/-- What a received frame is about: its source, and its number as the kind says (60 R315). -/
def frameSubject : FrameVal → LogSubject
  | .data src _ seq _ => { peer := some src, seq := some seq }
  | .ack src _ ack => { peer := some src, ack := some ack }
  | .sync src _ => { peer := some src }

/-- The tests of DEC after the length test, in their order (41 R153 to R157; 60 R292, R297, R299). Before the check field
is right the fields cannot be trusted and none is recorded (60 R292). -/
def decTail (s : State) (kind : FrameKind) (d : Bytes) : Except Failure FrameVal :=
  let x := decValue s kind d
  if crcMatches d = false then
    .error { status := .integrityError, info := .integrity (crc16 (crcCovered d)) (fieldCrc d), subject := {} }
  else if kind ≠ .sync ∧ s.w < fieldSeq s.seqb d then
    .error { status := .rangeError, info := .range (fieldSeq s.seqb d) s.w, subject := frameSubject x }
  else if fieldSrc d = fieldDst d then
    .error { status := .peerIdentityCollision, info := .collision (fieldSrc d), subject := frameSubject x }
  else .ok x

/-- `DEC` on a configured core (41 R150). -/
def decFrame (s : State) (d : Bytes) : Except Failure FrameVal :=
  match decHead s d with
  | .error e => .error e
  | .ok kind => decTail s kind d

/-- What DEC leaves in the CRC unit: the check value of the datagram, once the length test has passed (41 R153,
40 R121). -/
def decTrace (d : Bytes) (s : State) : State :=
  match decHead s d with
  | .error _ => s
  | .ok _ => setAcc (crc16 (crcCovered d)) s

/-- DEC s (41 R150). -/
def execDec (d : Bytes) (s : State) : Host.Outcome State Fault Refusal :=
  if s.ctl.cfgValid = false then .next (raiseState 0x43 {} s)
  else
    match decFrame s d with
    | .error e => .next (raise 0x43 e.status e.info e.subject (decTrace d s))
    | .ok x => .next (respond .ok (.frame x) (decTrace d s))

end Sys2Proof.Machine
end

