-- ==== Sys2Proof/Machine/Sender.lean ====
section
/-! DEFINITION. The sliding-window sender (42 R180 to R206) and ACK.DRAIN (20 R72): TX.START, TX.POLL, TX.ABORT,
TX.SLIDE, TX.TOCHK. -/

namespace Sys2Proof.Machine

/-! ## Filling slots -/

/-- `slot[i] <- FILLED(c)`: a New, unset slot with the encoded Data frame of number `i` (42, the abbreviation before
R180; 42 R144). -/
def fillSlot (i : Nat) (c : Bytes) (s : State) : State :=
  setAcc (crc16 (buildBody s.par.flagData s.localId s.tx.dest i c s))
    (setSlot i
      { s.slot i with
        valid := true
        frame := buildFrame s.par.flagData s.localId s.tx.dest i c s
        flen := BitVec.ofNat 13 (15 + s.seqb + c.length)
        stamped := false
        status := .new } s)

/-- The fill loop over the slots `is` in order: one pull a slot until SRC is exhausted (42 R184, R188). A chunk longer
than MAXP stops the machine (93 U3). -/
def refill : List Nat → State → Except Fault State
  | [], s => .ok s
  | i :: is, s =>
    if s.tx.exhausted then .ok s
    else
      match pullSrc s.src with
      | (.eos, rest) => .ok (markExhausted i { s with src := rest })
      | (.chunk c, rest) =>
        if s.maxp < c.length then .error (.srcChunkTooLong c.length)
        else refill is (fillSlot i c { s with src := rest })

/-! ## TX.START -/

/-- TX.START, register initialisation (42 R183). -/
def startRegisters (d : PeerId) (s : State) : State :=
  let s1 := clearTxFlags (releaseWindow s)
  { s1 with
    tx := { s1.tx with
      dest := d, framesSent := 0, bytesSent := 0, unusedPoint := cycAdd s.n s.initSeq s.w, cursor := s.initSeq }
    ackTab := [] }

/-- TX.START, resulting state (42 R185). -/
def startState (s : State) : State :=
  { s with
    tx := { s.tx with
      txState :=
        if s.tx.exhausted then (if s.tx.eos = s.initSeq then .done else .drain) else .fill } }

/-- TX.START d (42 R182). -/
def execTxStart (d : PeerId) (s : State) : Host.Outcome State Fault Refusal :=
  let about : LogSubject := { peer := some d }
  if s.ctl.cfgValid = false then .next (raiseState 0x10 about s)
  else if s.active then .next (raiseState 0x10 about s)
  else if d = s.localId then .next (raise 0x10 .peerIdentityCollision (.collision d) about s)
  else
    match refill (cycFrom s.n s.initSeq s.w) (startRegisters d s) with
    | .error f => .fault f
    | .ok s1 => .next (respond .ok .none (startState s1))

/-! ## TX.SLIDE -/

/-- TX.SLIDE, free step (42 R187). -/
def freeSlots (js : List Nat) (s : State) : State :=
  { s with tx := { s.tx with slots := js.foldl slotEmpty s.tx.slots } }

/-- The slide to `a`, in [0, W] (42 R186 to R188). -/
def slideTo (a : Nat) (s : State) : Except Fault State :=
  match refill (cycRange s.n s.tx.unusedPoint a) (freeSlots (cycRangeOpen s.n s.tx.unusedPoint a) s) with
  | .error f => .error f
  | .ok s1 => .ok { s1 with tx := { s1.tx with unusedPoint := a } }

/-- TX.SLIDE a (42 R186); a number above W is taken as a free value. -/
def execTxSlide (a : Nat) (s : State) : Host.Outcome State Fault Refusal :=
  match slideTo (numberTaken a s) (noteNumber a s) with
  | .error f => .fault f
  | .ok s1 => .next (respond .ok .none s1)

/-! ## TX.TOCHK -/

/-- `(now - sendTime) mod 2^TS_BITS` (42 R189). -/
def elapsed (now : Nat) (v : Slot) (s : State) : Nat :=
  (s.stamp now + 2 ^ s.par.tsBits - s.stamp v.sendTime) % 2 ^ s.par.tsBits

/-- `healthy`: the slot at `beginPoint` has not exceeded the timeout (42 R189). -/
def healthy (now : Nat) (s : State) : Bool :=
  let v := s.slot s.beginPoint
  if v.valid = false ∨ v.stamped = false then true else decide (elapsed now v s ≤ s.tmo)

/-- TX.TOCHK now (42 R189). -/
def execTxTochk (now : Nat) (s : State) : Host.Outcome State Fault Refusal :=
  .next (respond .ok (.bit (healthy now s)) s)

/-! ## ACK.DRAIN -/

/-- The ack table is exchanged with the empty map (20 R72). -/
def drainAcks (s : State) : State := { s with ackTab := [] }

/-- ACK.DRAIN (20 R72). -/
def execAckDrain (s : State) : Host.Outcome State Fault Refusal :=
  .next (respond .ok (.map s.ackTab) (drainAcks s))

/-! ## TX.POLL -/

/-- A poll that runs returns its result and writes its one LOG record, with the sequence number and the slot status its
result names (42 R200, 60 R315). -/
def pollReturn (status : Status) (value : Value) (seq : Option Nat) (slot : Option SlotStatus) (ack : Option Nat)
    (s : State) : State :=
  respond status value
    (writeLog 0x11 status (.poll value s.tx.dest s.tx.unusedPoint ack)
      { peer := some s.tx.dest, seq := seq, slot := slot, ack := ack } s)

/-- A poll that is refused: StateError, recorded with the command code, `dest` and `u` (42 R200, 60 R296). -/
def refusePoll (s : State) : State :=
  raise 0x11 .stateError (.refusedPoll 0x11 s.tx.dest s.tx.unusedPoint) { peer := some s.tx.dest } s

/-- `cursor <- c`. -/
def setCursor (c : Nat) (s : State) : State := { s with tx := { s.tx with cursor := c } }

/-- `txState <- x`. -/
def setTxState (x : TxState) (s : State) : State := { s with tx := { s.tx with txState := x } }

/-- The slide of the acknowledgement found for `dest`, if any (42 R191). -/
def pollSlide : Option Nat → State → Except Fault State
  | none, s => .ok s
  | some a, s => slideTo a s

/-- The terminal test, made after the slide (42 R192). -/
def isTerminal (ack : Option Nat) (s : State) : Bool :=
  match ack with
  | none => false
  | some a => s.tx.exhausted && a == cycAdd s.n s.tx.eos s.w

/-- The rewind marks slot `i` if it holds a frame: TimedOut at `b`, Retransmitted elsewhere, and unset (42 R194). -/
def markSlot (b : Nat) (s : State) (i : Nat) : State :=
  if (s.slot i).valid then
    setSlot i { s.slot i with status := if i = b then .timedOut else .retransmitted, stamped := false } s
  else s

/-- The ordinary rewind: every pending slot from `b` up to the old cursor is marked (42 R194). -/
def rewindMarks (b oldC : Nat) (s : State) : State := (cycRange s.n b oldC).foldl (markSlot b) s

/-- The unhealthy poll: tie-break or ordinary rewind, then `POLL_REWIND(b)` (42 R194, R195). -/
def pollRewind (oldC dAck dCur : Nat) (ack : Option Nat) (s : State) : State :=
  let b := s.beginPoint
  let s1 := if 1 ≤ dAck ∧ dCur ≤ dAck then s else rewindMarks b oldC s
  pollReturn .pollRewind (.number b) (some b) none ack (unstampSlot b (setCursor b s1))

/-- The cursor normalisation (42 R196). -/
def normalise (dAck dCur : Nat) (s : State) : State :=
  if s.par.normaliseOnSlide = true ∧ 1 ≤ dAck ∧ 1 ≤ dCur ∧ dCur ≤ dAck then setCursor s.beginPoint s else s

/-- The slot at the cursor is transmitted and stamped (42 R199). -/
def transmit (now : Nat) (s : State) : State :=
  let k := s.tx.cursor
  let v := s.slot k
  let s1 := setSlot k { v with stamped := true, sendTime := s.stamp now } (emitFrame (v.frame.take v.flen.toNat) .data true s)
  { s1 with
    tx := { s1.tx with
      framesSent := s.count (s.tx.framesSent + 1)
      bytesSent := s.count (s.tx.bytesSent + v.flen.toNat)
      cursor := cycInc s.n k } }

/-- The healthy poll: idle, skip or transmit (42 R197 to R199). -/
def pollSend (now : Nat) (ack : Option Nat) (s : State) : State :=
  let k := s.tx.cursor
  if k = s.tx.unusedPoint then pollReturn .pollIdle .none none none ack s
  else if (s.slot k).valid = false then pollReturn .pollSkip (.number k) (some k) none ack (setCursor (cycInc s.n k) s)
  else 
    pollReturn .pollSent (.sent k (s.slot k).status) (some k) (some (s.slot k).status) ack (transmit now s)

/-- The part of a poll after the acknowledgement has been applied (42 R190, R192 to R199). -/
def pollAfterSlide (now oldC dAck dCur : Nat) (ack : Option Nat) (s : State) : State :=
  if isTerminal ack s then
    pollReturn .pollDone (.number (ack.getD 0)) none none ack (setTxState .done (releaseWindow s))
  else
    let s1 := if s.tx.exhausted then setTxState .drain s else s
    if healthy now s1 = false then pollRewind oldC dAck dCur ack s1
    else pollSend now ack (normalise dAck dCur s1)

/-- The acknowledgement posted for `dest`, if any (42 R191). -/
def postedAck (s : State) : Option Nat := tableFind s.ackTab s.tx.dest.toNat

/-- The counter of free values moves on when the posted acknowledgement is above W. -/
def notePosted : Option Nat → State → State
  | none, s => s
  | some a, s => noteNumber a s

/-- TX.POLL now (42 R190). -/
def execTxPoll (now : Nat) (s : State) : Host.Outcome State Fault Refusal :=
  if s.ctl.cfgValid = false ∨ s.active = false then .next (refusePoll s)
  else
    let ack := (postedAck s).map (numberTaken · s)
    let dAck := match ack with
      | none => 0
      | some a => cycDist s.n s.tx.unusedPoint a
    match pollSlide ack (drainAcks (notePosted (postedAck s) s)) with
    | .error f => .fault f
    | .ok s1 =>
      .next (pollAfterSlide now s.tx.cursor dAck (cycDist s.n s.tx.unusedPoint s.tx.cursor) ack s1)

/-! ## TX.ABORT -/

/-- TX.ABORT (42 R201). -/
def execTxAbort (s : State) : Host.Outcome State Fault Refusal :=
  if s.ctl.cfgValid = false ∨ s.active = false then .next (raiseState 0x12 {} s)
  else .next (respond .ok .none (setTxState .done (setAborted (releaseWindow s))))

end Sys2Proof.Machine
end

