-- ==== Sys2Proof/Machine/Receiver.lean ====
section
/-! DEFINITION. The receiver (43 R220 to R232), ACK.POST (20 R71), and the three frame kinds arriving on RXF (30 R91):
RX.DGRAM, RX.DATA, RX.ACK, RX.SYNC, FRAME.DATA, FRAME.ACK, FRAME.SYNC. -/

namespace Sys2Proof.Machine

/-! ## ACK.POST and RX.ACK -/

/-- The point write of the ack table (20 R71). -/
def setAckEntry (p : PeerId) (a : Nat) (s : State) : State := { s with ackTab := tableInsert s.ackTab p.toNat a }

/-- ACK.POST on the table (20 R71); a number above W is taken as a free value. -/
def postAck (p : PeerId) (a : Nat) (s : State) : State := setAckEntry p (numberTaken a s) (noteNumber a s)

/-- ACK.POST p, a (20 R71). -/
def execAckPost (p : PeerId) (a : Nat) (s : State) : Host.Outcome State Fault Refusal :=
  .next (respond .ok .none (postAck p a s))

/-- A new peer finds table `tab` full (60 R301). -/
def noRoom (tab : List (Nat × Nat)) (p : PeerId) (s : State) : Bool :=
  (tableFind tab p.toNat).isNone && s.par.maxPeers == some tab.length

/-- RX.ACK of an Ack frame from `src` (43 R228). -/
def receiveAck (src : PeerId) (ack : Nat) (s : State) : State :=
  let about : LogSubject := { peer := some src, ack := some ack }
  if noRoom s.ackTab src s then raise 0x85 .tableFull (.peer src) about s
  else respond .okAck .none (writeLog 0x85 .okAck (.ack src ack) about (postAck src ack s))

/-- RX.ACK x (43 R228). -/
def execRxAck (src _dst : PeerId) (ack : Nat) (s : State) : Host.Outcome State Fault Refusal :=
  .next (receiveAck src ack s)

/-! ## RX.SYNC -/

/-- RX.SYNC of a Sync frame from `src` (43 R229). -/
def receiveSync (src : PeerId) (s : State) : State :=
  respond .okSync .none
    (writeLog 0x86 .okSync (.peer src) { peer := some src } { s with rxTab := tableErase s.rxTab src.toNat })

/-- RX.SYNC x (43 R229). -/
def execRxSync (src _dst : PeerId) (s : State) : Host.Outcome State Fault Refusal := .next (receiveSync src s)

/-! ## RX.DATA -/

/-- `rxTab[src] <- e`. -/
def setExpected (src : PeerId) (e : Nat) (s : State) : State := { s with rxTab := tableInsert s.rxTab src.toNat e }

/-- `expectedSeq` of `src`: its entry, or `INIT` on first contact (43 R224). -/
def State.expected (s : State) (src : PeerId) : Nat := (tableFind s.rxTab src.toNat).getD s.initSeq

/-- The answer to a Data frame: one Ack frame with number `av`, one LOG record, the result (43 R223, R227). -/
def answerData (result : Status) (src : PeerId) (seq e av : Nat) (s : State) : State :=
  respond result .none
    (writeLog 0x84 result (.sequence src seq e av) { peer := some src, seq := some seq, ack := some av }
      (emitFrame (buildFrame s.par.flagAck s.localId src av [] s) .ack true
        (stageFrame s.par.flagAck s.localId src av [] s)))

/-- RX.DATA of a Data frame from `src` (43 R223). -/
def receiveData (src : PeerId) (seq : Nat) (payload : Bytes) (s : State) : State :=
  if noRoom s.rxTab src s then raise 0x84 .tableFull (.peer src) { peer := some src, seq := some seq } s
  else
    let e := s.expected src
    if seq = e then
      answerData .okData src seq e seq (setExpected src (cycInc s.n e) (deliver src payload s))
    else
      answerData .sequenceMismatch src seq e (cycAdd s.n e s.w) (setExpected src e s)

/-- RX.DATA x (43 R223). -/
def execRxData (src _dst : PeerId) (seq : Nat) (payload : Bytes) (s : State) : Host.Outcome State Fault Refusal :=
  .next (receiveData src seq payload s)

/-! ## RX.DGRAM -/

/-- Dispatch on the frame kind (43 R221). -/
def receiveFrame (x : FrameVal) (s : State) : State :=
  match x with
  | .data src _ seq payload => receiveData src seq payload s
  | .ack src _ ack => receiveAck src ack s
  | .sync src _ => receiveSync src s

/-- One datagram: decode, address test, dispatch (43 R221, R222). Its status goes to the receive role, on whose line a
request for it is always served (44 R270). -/
def receiveDatagram (d : Bytes) (s : State) : State :=
  if s.ctl.cfgValid = false ∨ s.ctl.rxEn = false then raiseState 0x20 {} s
  else
    let s1 := decTrace d (loadRxbuf d s)
    match decFrame s d with
    | .error e => raise 0x20 e.status e.info e.subject s1
    | .ok x =>
      if frameDst x ≠ s.localId then
        raise 0x20 .addressMismatch (.address (frameSrc x) (frameDst x) (frameKind x)) (frameSubject x) s1
      else receiveFrame x s1

/-- RX.DGRAM s (43 R221). -/
def execRxDgram (d : Bytes) (s : State) : Host.Outcome State Fault Refusal := .next (receiveDatagram d s)

/-! ## Frames arriving on RXF -/

/-- FRAME.DATA: the receive role takes the Data frame as one RX.DGRAM (30 R91, 44 R260). Log 8. -/
def execFrameData (src dst : PeerId) (seq : Nat) (payload : Bytes) (crc : BitVec 16) (s : State) :
    Host.Outcome State Fault Refusal :=
  .next (receiveDatagram (frameBytes s.seqb s.par.flagData src dst seq payload crc) s)

/-- FRAME.ACK: the receive role takes the Ack frame as one RX.DGRAM (30 R91, 44 R260). Log 8. -/
def execFrameAck (src dst : PeerId) (ack : Nat) (crc : BitVec 16) (s : State) : Host.Outcome State Fault Refusal :=
  .next (receiveDatagram (frameBytes s.seqb s.par.flagAck src dst ack [] crc) s)

/-- FRAME.SYNC: the receive role takes the Sync frame as one RX.DGRAM (30 R91, 44 R260). Log 8. -/
def execFrameSync (src dst : PeerId) (reserved : Nat) (crc : BitVec 16) (s : State) :
    Host.Outcome State Fault Refusal :=
  .next (receiveDatagram (frameBytes s.seqb s.par.flagSync src dst reserved [] crc) s)

end Sys2Proof.Machine
end

