-- ==== Sys2Proof/Machine/HostOps.lean ====
section
/-! DEFINITION. The host operations (44 R260 to R270, 70 R330): RESET, CFG.SET, CFG.COMMIT, CSR.READ, RX.RUN, RX.STOP,
SYNC.SEND, and what a request that is no operation does (30 R101). -/

namespace Sys2Proof.Machine

/-! ## RESET -/

/-- Every register, flag, slot and table at its reset value; the static parameters, the hidden buffers (70 R332) and
the environment's interfaces are not written (70 R330). -/
def resetCore (s : State) : State :=
  { s with cfg := CfgRegs.reset, ctl := Control.reset, tx := Sender.reset, rxTab := [], ackTab := [] }

/-- RESET (70 R330). -/
def execReset (s : State) : Host.Outcome State Fault Refusal := .next (respond .ok .none (resetCore s))

/-! ## Registers -/

/-- The value of register `r`, zero-extended to 64 bits, or nothing for a reserved number (10 R40, R41; 44 R261). -/
def csrValue (s : State) (r : Nat) : Option (BitVec 64) :=
  match r with
  | 0x00 => some (s.cfg.w.setWidth 64)
  | 0x01 => some (s.cfg.maxp.setWidth 64)
  | 0x02 => some (s.cfg.initSeq.setWidth 64)
  | 0x03 => some (s.cfg.tmo.setWidth 64)
  | 0x04 => some (s.cfg.localId.setWidth 64)
  | 0x08 => some (BitVec.ofNat 64 (ctrlBits s))
  | 0x10 => some (s.ctl.seqMod.setWidth 64)
  | 0x11 => some (s.ctl.seqBytes.setWidth 64)
  | 0x20 => some (BitVec.ofNat 64 (txStateCode s.tx.txState))
  | 0x21 => some (s.tx.dest.setWidth 64)
  | 0x22 => some (BitVec.ofNat 64 (s.tx.unusedPoint % 65536))
  | 0x23 => some (if s.ctl.cfgValid then BitVec.ofNat 64 (s.beginPoint % 65536) else 0)
  | 0x24 => some (BitVec.ofNat 64 (s.tx.cursor % 65536))
  | 0x25 => some (BitVec.ofNat 64 (txEosBits s))
  | 0x26 => some (BitVec.ofNat 64 (txFlagBits s))
  | 0x27 => some (BitVec.ofNat 64 s.tx.framesSent)
  | 0x28 => some (BitVec.ofNat 64 s.tx.bytesSent)
  | _ => none

/-- CSR.READ r (44 R261). -/
def execCsrRead (r : Nat) (s : State) : Host.Outcome State Fault Refusal :=
  match csrValue s r with
  | none => .next (raiseState 0x03 {} s)
  | some v => .next (respond .ok (.register v) s)

/-- `register r <- v` for the configuration registers, or nothing for another number (10 R40, 44 R262). -/
def writeCfg (r : Nat) (v : BitVec 48) (s : State) : Option State :=
  match r with
  | 0x00 => some { s with cfg := { s.cfg with w := v.setWidth 32 } }
  | 0x01 => some { s with cfg := { s.cfg with maxp := v.setWidth 32 } }
  | 0x02 => some { s with cfg := { s.cfg with initSeq := v.setWidth 32 } }
  | 0x03 => some { s with cfg := { s.cfg with tmo := v.setWidth 32 } }
  | 0x04 => some { s with cfg := { s.cfg with localId := v } }
  | _ => none

/-- Configuration may not change: a transfer is active or the receive role runs (44 R262, R263). -/
def State.cfgLocked (s : State) : Bool := s.active || s.ctl.rxEn

/-- CFG.SET r, v (44 R262). -/
def execCfgSet (r : Nat) (v : BitVec 48) (s : State) : Host.Outcome State Fault Refusal :=
  if s.cfgLocked then .next (raiseState 0x01 {} s)
  else
    match writeCfg r v s with
    | none => .next (raiseState 0x01 {} s)
    | some s1 => .next (respond .ok .none (setCfgValid false s1))

/-! ## CFG.COMMIT -/

/-- All protocol state is cleared (44 R263). -/
def clearProtocol (s : State) : State :=
  { s with
    rxTab := []
    ackTab := []
    tx := { Sender.reset with slots := (s.tx.slots.map (fun e => (e.1, slotEmptied e.2))).filter (fun e => e.2 != Slot.blank) } }

/-- The first of the four tests of CFG.COMMIT that fails, 1 to 4, with the offending value (44 R263, 60 R295). -/
def cfgFailure (s : State) : Option (Nat × BitVec 32) :=
  if ¬ (1 ≤ s.w ∧ s.w ≤ s.par.wMax) then some (1, s.cfg.w)
  else if ¬ (1 ≤ s.maxp ∧ s.maxp ≤ 4096) then some (2, s.cfg.maxp)
  else if ¬ (s.initSeq ≤ 254) then some (3, s.cfg.initSeq)
  else if ¬ (s.initSeq ≤ s.w) then some (4, s.cfg.initSeq)
  else none

/-- `SEQ_MOD` and `SEQ_BYTES` (44 R263). -/
def setDerived (m : BitVec 32) (b : BitVec 8) (s : State) : State := { s with ctl := { s.ctl with seqMod := m, seqBytes := b } }

/-- CFG.COMMIT (44 R263). -/
def execCfgCommit (s : State) : Host.Outcome State Fault Refusal :=
  if s.cfgLocked then .next (raiseState 0x02 {} s)
  else
    match cfgFailure s with
    | none =>
      .next (respond .ok .none
        (setCfgValid true (setDerived (s.cfg.w + 1) (BitVec.ofNat 8 s.seqb) (clearProtocol s))))
    | some (test, value) =>
      .next (raise 0x02 .configurationError (.config test value) {}
        (setCfgValid false (setDerived 0 0 (clearProtocol s))))

/-! ## Control of the receive role -/

/-- RX.RUN (44 R264). -/
def execRxRun (s : State) : Host.Outcome State Fault Refusal :=
  if s.ctl.cfgValid = false then .next (raiseState 0x04 {} s)
  else .next (respond .ok .none (setRxEn true s))

/-- RX.STOP (44 R265). -/
def execRxStop (s : State) : Host.Outcome State Fault Refusal := .next (respond .ok .none (setRxEn false s))

/-! ## SYNC.SEND -/

/-- SYNC.SEND d (44 R266). -/
def execSyncSend (d : PeerId) (s : State) : Host.Outcome State Fault Refusal :=
  if s.ctl.cfgValid = false then .next (raiseState 0x06 { peer := some d } s)
  else if d = s.localId then .next (raise 0x06 .peerIdentityCollision (.collision d) { peer := some d } s)
  else
    .next (respond .ok .none
      (writeLog 0x06 .ok (.peer d) { peer := some d }
        (emitFrame (buildFrame s.par.flagSync s.localId d 0 [] s) .sync false
          (stageFrame s.par.flagSync s.localId d 0 [] s))))

/-! ## Requests that are no operation -/

/-- A request the decoder refuses. A command raises StateError and does nothing (30 R101); a datagram is given to
RX.DGRAM all the same, which drops it with its status (43 R221). -/
def serveRejected (r : Presented) (s : State) : Host.Outcome State Fault Refusal :=
  match r with
  | .command _ code _ => .next (raiseState code {} s)
  | .datagram d => .next (receiveDatagram d s)

end Sys2Proof.Machine
end

