-- ==== Sys2Proof/Machine/Dispatch.lean ====
section
/-! DEFINITION. One arm per constructor of Instr, each one direct call of its meaning. -/

namespace Sys2Proof.Machine

/-- The effect of one operation, or of one frame arriving, on the core. -/
def exec (i : Instr) (s : State) : Host.Outcome State Fault Refusal :=
  match i with
  | .reset => Sys2Proof.Machine.execReset s
  | .cfgSet r v => Sys2Proof.Machine.execCfgSet r v s
  | .cfgCommit => Sys2Proof.Machine.execCfgCommit s
  | .csrRead r => Sys2Proof.Machine.execCsrRead r s
  | .rxRun => Sys2Proof.Machine.execRxRun s
  | .rxStop => Sys2Proof.Machine.execRxStop s
  | .syncSend d => Sys2Proof.Machine.execSyncSend d s
  | .txStart d => Sys2Proof.Machine.execTxStart d s
  | .txPoll now => Sys2Proof.Machine.execTxPoll now s
  | .txAbort => Sys2Proof.Machine.execTxAbort s
  | .rxDgram d => Sys2Proof.Machine.execRxDgram d s
  | .crc16 d => Sys2Proof.Machine.execCrc16 d s
  | .crcChk d => Sys2Proof.Machine.execCrcChk d s
  | .encData src dst seq payload => Sys2Proof.Machine.execEncData src dst seq payload s
  | .encAck src dst ack => Sys2Proof.Machine.execEncAck src dst ack s
  | .encSync src dst => Sys2Proof.Machine.execEncSync src dst s
  | .dec d => Sys2Proof.Machine.execDec d s
  | .txSlide a => Sys2Proof.Machine.execTxSlide a s
  | .txTochk now => Sys2Proof.Machine.execTxTochk now s
  | .ackPost p a => Sys2Proof.Machine.execAckPost p a s
  | .ackDrain => Sys2Proof.Machine.execAckDrain s
  | .rxData src dst seq payload => Sys2Proof.Machine.execRxData src dst seq payload s
  | .rxAck src dst ack => Sys2Proof.Machine.execRxAck src dst ack s
  | .rxSync src dst => Sys2Proof.Machine.execRxSync src dst s
  | .crcInit => Sys2Proof.Machine.execCrcInit s
  | .crcByte b => Sys2Proof.Machine.execCrcByte b s
  | .frameData src dst seq payload crc => Sys2Proof.Machine.execFrameData src dst seq payload crc s
  | .frameAck src dst ack crc => Sys2Proof.Machine.execFrameAck src dst ack crc s
  | .frameSync src dst reserved crc => Sys2Proof.Machine.execFrameSync src dst reserved crc s

end Sys2Proof.Machine
end

