-- ==== Sys2Proof/Machine/Step.lean ====
section
/-! DEFINITION. One step: the oldest request is served whole (20 R74); with none the core does nothing (70 R333). -/

namespace Sys2Proof.Machine

/-- One step. After reset, and whenever nothing is presented, the core does nothing until an operation is issued
(70 R333, 60 R316). -/
def step (s : State) : Host.Outcome State Fault Refusal :=
  match s.requests with
  | [] => .next s
  | r :: rest =>
    match decode s.mode r with
    | .ok i => exec i (takeRequest r rest s)
    | .error _ => serveRejected r (takeRequest r rest s)

/-- The command byte `w` with operand fields of zeros, on the line an operation of that code is issued on, or the
datagram `w` spells when it is as long as a frame, stands next in the request queue. Log 3. -/
def State.withFetchWord (s : State) (nbits w : Nat) : State := { s with requests := presentWord nbits w :: s.requests }

end Sys2Proof.Machine
end

