-- ==== Sys2Proof/Safety.lean ====
section
/-! DEFINITION. What counts as a safe run: the contract of SRC (42 R181), and the invariants of the state
that claims are made under. Every predicate is a Bool. -/

namespace Sys2Proof.Machine

/-! ## What the environment owes -/

/-- The contract of SRC, part (a): no chunk it will answer is longer than MAXP (42 R181). -/
def srcKeepsContract (s : State) : Bool :=
  s.src.all fun a =>
    match a with
    | .chunk c => decide (c.length ≤ s.maxp)
    | .eos => true

/-- A step that does not stop the machine. -/
def goesOn (o : Host.Outcome State Fault Refusal) : Bool :=
  match o with
  | .next _ => true
  | .fault _ => false
  | .refused _ => false

/-! ## Invariants -/

/-- The slot file and both tables are in canonical form. -/
def canonical (s : State) : Bool := slotsWf s.tx.slots && tableWf s.rxTab && tableWf s.ackTab

/-- A core that is configured holds a legal configuration and what CFG.COMMIT derived from it (00 R6, 44 R263); only a
configured core receives or sends (44 R262 to R264, 42 R182); `exhausted = eosValid` (10 R28); DRAIN only when
exhausted (10 R29). -/
def configLegal (s : State) : Bool :=
  (!s.ctl.cfgValid ||
    ((cfgFailure s).isNone && s.ctl.seqMod == s.cfg.w + 1 && s.ctl.seqBytes == BitVec.ofNat 8 s.seqb)) &&
  (!s.ctl.rxEn || s.ctl.cfgValid) &&
  (!s.active || s.ctl.cfgValid) &&
  s.tx.exhausted == s.tx.eosValid &&
  (!(s.tx.txState == .drain) || s.tx.exhausted)

/-- On a configured core every index lies in [0, W] (10 R26, R27, R30), and the slots that hold a frame lie in [0, W]
and are not the one at `unusedPoint` (10 R32 (c)). -/
def windowInRange (s : State) : Bool :=
  !s.ctl.cfgValid ||
    (decide (s.tx.unusedPoint ≤ s.w) && decide (s.tx.cursor ≤ s.w) && decide (s.tx.eos ≤ s.w) &&
      s.tx.slots.all (fun e => !e.2.valid || (decide (e.1 ≤ s.w) && e.1 != s.tx.unusedPoint)))

/-- On a configured core the tables hold numbers in [0, W] (10 R35, R36), and the receiver table holds at most
MAX_PEERS entries (10 R35). -/
def tablesInRange (s : State) : Bool :=
  (!s.ctl.cfgValid ||
    (s.rxTab.all (fun e => decide (e.2 ≤ s.w)) && s.ackTab.all (fun e => decide (e.2 ≤ s.w)))) &&
  (match s.par.maxPeers with
    | none => true
    | some c => decide (s.rxTab.length ≤ c))

/-- While the source is not exhausted in FILL, every slot but the one at `unusedPoint` holds a frame (10 R33 (a)). -/
def fillWindowFull (s : State) : Bool :=
  !(s.tx.txState == .fill && !s.tx.exhausted) ||
    (List.range s.n).all (fun i => (s.slot i).valid == (i != s.tx.unusedPoint))

/-- During a transfer the destination is not the core itself, and a slot that holds a frame holds the encoded Data
frame of its own number, from LOCAL to `dest`, with its true length (10 R21, R22, R24). -/
def slotsHoldTheirFrames (s : State) : Bool :=
  !s.active ||
    (s.tx.dest != s.localId &&
      s.tx.slots.all (fun e =>
        !e.2.valid ||
          (e.2.frame == buildFrame s.par.flagData s.localId s.tx.dest e.1 (fieldPayload s.seqb e.2.frame) s &&
            decide ((fieldPayload s.seqb e.2.frame).length ≤ s.maxp) &&
            e.2.flen.toNat == e.2.frame.length)))

/-- Every invariant. -/
def Inv (s : State) : Bool :=
  canonical s && configLegal s && windowInRange s && tablesInRange s && fillWindowFull s && slotsHoldTheirFrames s

end Sys2Proof.Machine
end

