-- ==== Sys2Proof/Certificates/Slice0/Obligations.lean ====
section
/-! DEFINITION. The statements for the provers, and the vocabulary they are written in, which follows the spec's
pseudocode and not the meanings. -/

namespace Sys2Proof.Spec

open Sys2Proof.Machine

/-! ## What an operation returns (60 R290, R300) -/

/-- The issuer gets `st` and `v`; nothing else differs from `s`. That an operation whose table row names no status answers
OK is 60 R290's reading (log 15). -/
def reply (st : Status) (v : Value) (s : State) : State := { s with resp := some { line := s.line, status := st, value := v } }

/-- One LOG record more, nothing else. Its fields are those of D32; which of them a decision fills, and its layout, are
the model's choice (log 16). -/
def logged (op : Byte) (st : Status) (info : LogInfo) (subject : LogSubject) (s : State) : State :=
  { s with log := s.log ++ [{ op := op, status := st, info := info, subject := subject }] }

/-- `raise`: one LOG record and the status, nothing else (60 R300). -/
def refusal (op : Byte) (st : Status) (info : LogInfo) (subject : LogSubject) (s : State) : State :=
  reply st .none (logged op st info subject s)

/-- StateError with the command code (60 R296). -/
def stateError (op : Byte) (subject : LogSubject) (s : State) : State := refusal op .stateError (.command op) subject s

/-- A refused TX.POLL: StateError, recorded with the command code, `dest` and `u` (42 R200, 60 R296). -/
def pollRefused (s : State) : State :=
  refusal 0x11 .stateError (.refusedPoll 0x11 s.tx.dest s.tx.unusedPoint) { peer := some s.tx.dest } s

/-- `s` with the CRC accumulator at `v`. What an operation other than CRC.INIT and CRC.BYTE leaves there is the model's
choice (log 21; 93 U7 leaves it open). -/
def withAcc (v : BitVec 16) (s : State) : State := { s with hid := { s.hid with acc := v } }

/-- `s` with frame `f` in the staging buffer and the check value of `body` in the accumulator. What an operation leaves in
the hidden state is the model's choice (log 21; 93 U7 leaves it open). -/
def withStaged (body f : Bytes) (s : State) : State := { s with hid := { s.hid with acc := crc16 body, txbuf := f } }

/-! ## CRC (40 R122, R123) -/

/-- One bit step. -/
def bitStep (acc : BitVec 16) : BitVec 16 :=
  if 32768 ≤ acc.toNat then (acc <<< 1) ^^^ 0x1021#16 else acc <<< 1

/-- The byte step. -/
def byteStep (acc : BitVec 16) (b : Byte) : BitVec 16 :=
  bitStep (bitStep (bitStep (bitStep (bitStep (bitStep (bitStep (bitStep (acc ^^^ (b.setWidth 16 <<< 8)))))))))

/-- The table entry `T[i]` of 40 R123. -/
def tableEntry (i : Byte) : BitVec 16 := byteStep 0 i

/-- `d` with bit `k` inverted, bit 0 the most significant bit of the first byte. -/
def flipBit (d : Bytes) (k : Nat) : Bytes := d.modify (k / 8) (fun b => b ^^^ BitVec.ofNat 8 (2 ^ (7 - k % 8)))

/-- The exclusive-or of two strings, byte by byte. -/
def xorBytes (s e : Bytes) : Bytes := List.zipWith (fun a b => a ^^^ b) s e

/-! ## Frames (41 R142) -/

/-- The bytes before the check field. -/
def body (s : State) (flag : Byte) (src dst : PeerId) (v : Nat) (payload : Bytes) : Bytes :=
  [flag] ++ peerBytes src ++ peerBytes dst ++ beBytes s.seqb v ++ payload

/-- `BUILD(flag, src, dst, v, payload)`. -/
def built (s : State) (flag : Byte) (src dst : PeerId) (v : Nat) (payload : Bytes) : Bytes :=
  body s flag src dst v payload ++ beBytes 2 (crc16 (body s flag src dst v payload)).toNat

/-- The length a datagram with a recognised flag must have (41 R152). -/
def lengthFits (s : State) (d : Bytes) : Prop :=
  if d.head? = some s.par.flagData then 15 + s.seqb ≤ d.length ∧ d.length ≤ 15 + s.seqb + s.maxp
  else d.length = 15 + s.seqb

/-- The first byte is one of the three flags (41 R151). -/
def flagKnown (s : State) (d : Bytes) : Prop :=
  d.head? = some s.par.flagData ∨ d.head? = some s.par.flagAck ∨ d.head? = some s.par.flagSync

/-! ## Configuration (10 R29, 44 R262) -/

/-- A transfer is active. -/
def transfers (s : State) : Prop := s.tx.txState = .fill ∨ s.tx.txState = .drain

/-- Configuration may not change. -/
def locked (s : State) : Prop := transfers s ∨ s.ctl.rxEn = true

/-- `register r <- v`. -/
def withRegister (r : Nat) (v : BitVec 48) (c : CfgRegs) : CfgRegs :=
  { w := if r = 0 then v.setWidth 32 else c.w
    maxp := if r = 1 then v.setWidth 32 else c.maxp
    initSeq := if r = 2 then v.setWidth 32 else c.initSeq
    tmo := if r = 3 then v.setWidth 32 else c.tmo
    localId := if r = 4 then v else c.localId }

/-- Every register number with its value (10 R40, R41). An index wider than its 16-bit register shows its low bits, the
model's choice (log 18). -/
def registers (s : State) : List (Nat × Nat) :=
  [(0x00, s.cfg.w.toNat), (0x01, s.cfg.maxp.toNat), (0x02, s.cfg.initSeq.toNat), (0x03, s.cfg.tmo.toNat),
    (0x04, s.cfg.localId.toNat), (0x08, s.ctl.rxEn.toNat + 2 * s.ctl.cfgValid.toNat), (0x10, s.ctl.seqMod.toNat),
    (0x11, s.ctl.seqBytes.toNat),
    (0x20, match s.tx.txState with
      | .idle => 0
      | .fill => 1
      | .drain => 2
      | .done => 3),
    (0x21, s.tx.dest.toNat), (0x22, s.tx.unusedPoint % 65536),
    (0x23, if s.ctl.cfgValid then (s.tx.unusedPoint + 1) % (s.w + 1) % 65536 else 0), (0x24, s.tx.cursor % 65536),
    (0x25, 65536 * s.tx.eosValid.toNat + s.tx.eos % 65536), (0x26, s.tx.exhausted.toNat + 2 * s.tx.aborted.toNat),
    (0x27, s.tx.framesSent), (0x28, s.tx.bytesSent)]

/-! ## The sender (42) -/

/-- The chunks SRC answers before it answers EOS, at most `k` of them. -/
def leadingChunks : Nat → List SrcAnswer → List Bytes
  | 0, _ => []
  | _ + 1, [] => []
  | _ + 1, .eos :: _ => []
  | k + 1, .chunk c :: rest => c :: leadingChunks k rest

/-- Slot value `v` is FILLED with chunk `c` as number `i` to `d` (42, before R180). -/
def isFilled (s : State) (d : PeerId) (i : Nat) (c : Bytes) (v : Slot) : Prop :=
  v.valid = true ∧ v.frame = built s s.par.flagData s.localId d i c ∧
    v.flen = BitVec.ofNat 13 (15 + s.seqb + c.length) ∧ v.stamped = false ∧ v.status = .new

/-- Slot value `v` is EMPTY (10 R22). -/
def isEmpty (v : Slot) : Prop := v.valid = false ∧ v.stamped = false ∧ v.flen = 0 ∧ v.status = .new

/-- The window is unhealthy at `now` (42 R189). -/
def unhealthy (now : Nat) (s : State) : Prop :=
  (s.slot s.beginPoint).valid = true ∧ (s.slot s.beginPoint).stamped = true ∧
    (s.tmo : Int) < ((now : Int) - ((s.slot s.beginPoint).sendTime : Int)) % ((2 ^ s.par.tsBits : Nat) : Int)

/-- A poll may run (42 R190). -/
def mayPoll (s : State) : Prop := s.ctl.cfgValid = true ∧ transfers s

/-- The state a poll judges the timeout in, when no terminal acknowledgement was applied: the ack table is drained and
FILL has become DRAIN if the source is exhausted (42 R191, R193). -/
def judged (s : State) : State :=
  { s with ackTab := [], tx := { s.tx with txState := if s.tx.exhausted then .drain else s.tx.txState } }

/-- A poll's result with its LOG record, which names `dest`, the sequence number and slot status of the result, `u` after
the poll and the acknowledgement consumed (42 R200; log 16). -/
def polled (st : Status) (v : Value) (seq : Option Nat) (slot : Option SlotStatus) (ack : Option Nat) (s : State) : State :=
  reply st v
    (logged 0x11 st (.poll v s.tx.dest s.tx.unusedPoint ack)
      { peer := some s.tx.dest, seq := seq, slot := slot, ack := ack } s)

/-- The acknowledgement for `dest` that a poll finds (42 R191). -/
def ackFor (s : State) : Option Nat := tableFind s.ackTab s.tx.dest.toNat

/-- The acknowledgement `a` is terminal in `s` (42 R192). -/
def terminal (a : Nat) (s : State) : Prop := s.tx.exhausted = true ∧ a = (s.tx.eos + s.w) % (s.w + 1)

/-- The old cursor does not lie beyond the region that acknowledgement `a` frees (42 R195). -/
def cursorFreed (a : Nat) (s : State) : Prop :=
  1 ≤ cycDist s.n s.tx.unusedPoint a ∧ cycDist s.n s.tx.unusedPoint s.tx.cursor ≤ cycDist s.n s.tx.unusedPoint a

/-- The normalisation is present and the old cursor pointed into the region that acknowledgement `a` frees (42 R196). -/
def normalises (a : Nat) (s : State) : Prop :=
  s.par.normaliseOnSlide = true ∧ cursorFreed a s ∧ 1 ≤ cycDist s.n s.tx.unusedPoint s.tx.cursor

/-! ## The receiver (43) -/

/-- A new peer finds no room in `tab` (60 R301). -/
def full (tab : List (Nat × Nat)) (p : PeerId) (s : State) : Prop :=
  tableFind tab p.toNat = none ∧ s.par.maxPeers = some tab.length

/-- `expectedSeq` of `p`, `INIT` if it has no entry (43 R224). -/
def expectedSeq (s : State) (p : PeerId) : Nat := (tableFind s.rxTab p.toNat).getD s.initSeq

/-- The answer to a Data frame: the Ack frame with number `av` to `src` on TXF, one LOG record, the result (43 R223,
R227). -/
def acknowledged (result : Status) (src : PeerId) (seq e av : Nat) (s : State) : State :=
  reply result .none
    (logged 0x84 result (.sequence src seq e av) { peer := some src, seq := some seq, ack := some av }
      { withStaged (body s s.par.flagAck s.localId src av []) (built s s.par.flagAck s.localId src av []) s with
        txf := s.txf ++ [{ bytes := built s s.par.flagAck s.localId src av [], kind := .ack, impaired := true }] })

/-- What RX.DGRAM leaves in the hidden state when DEC gets past the length test on `d`: the datagram in the receive
buffer (20 R61), and, the model's choice (log 21; 93 U7 leaves it open), its check value in the accumulator. -/
def withDatagram (d : Bytes) (s : State) : State :=
  { s with hid := { s.hid with acc := crc16 (d.take (d.length - 2)), rxbuf := d, rxlen := d.length } }

/-- The LOG record of a Data frame accepted with number `e` (43 R223). -/
def acceptRecord (src : PeerId) (e : Nat) : LogRecord :=
  { op := 0x84, status := .okData, info := .sequence src e e e,
    subject := { peer := some src, seq := some e, ack := some e } }

/-- What a received frame is about: its source, and its number as the kind says. -/
def aboutFrame : FrameVal → LogSubject
  | .data src _ seq _ => { peer := some src, seq := some seq }
  | .ack src _ ack => { peer := some src, ack := some ack }
  | .sync src _ => { peer := some src }

/-- What `d`, whose check field is right, is about: its source, and its number as the flag says. -/
def aboutBytes (s : State) (d : Bytes) : LogSubject :=
  let v := unbe (slice d 13 (13 + s.seqb))
  { peer := some (fieldSrc d)
    seq := if d.head? = some s.par.flagData then some v else none
    ack := if d.head? ≠ some s.par.flagData ∧ d.head? = some s.par.flagAck then some v else none }

/-- The operations whose decision is about one peer known beforehand, with that peer. -/
def peerOfDecision (i : Instr) (s : State) : Option PeerId :=
  match i with
  | .txPoll _ => some s.tx.dest
  | .syncSend d => some d
  | .txStart d => some d
  | .rxData src _ _ _ => some src
  | .rxAck src _ _ => some src
  | .rxSync src _ => some src
  | _ => none

/-- The operations that take a datagram. -/
def takesDatagram (i : Instr) : Bool :=
  match i with
  | .rxDgram _ => true
  | .frameData _ _ _ _ _ => true
  | .frameAck _ _ _ _ => true
  | .frameSync _ _ _ _ => true
  | _ => false

end Sys2Proof.Spec

open Sys2Proof Sys2Proof.Machine

/-! ## Steps and requests -/

/-- A step serves the oldest request: when it decodes to `i`, the step is `exec i` once the request is off the queue and
its line is noted (20 R74, 30 R101); with nothing presented the core does nothing (70 R333, 60 R316). The queue and the
line are the model's own (logs 3, 4, 19). -/
def Obligations.StepRunsTheDecodedOperation : Prop :=
  (∀ (s : State) (r : Presented) (rest : List Presented) (i : Instr),
    s.requests = r :: rest → decode s.mode r = .ok i → step s = exec i { s with requests := rest, line := r.line }) ∧
  (∀ s : State, s.requests = [] → step s = .next s)

/-- A code that 30 R100 does not list, on any line, and a sub-operation code on an agent's line, raise StateError and do
nothing (30 R101). -/
def Obligations.UnlistedOrSubOperationCodeRaisesStateError : Prop :=
  ∀ (s : State) (rest : List Presented) (line : Line) (code : Byte) (f : Fields),
    s.requests = .command line code f :: rest →
    (code.toNat ∉ [0x00, 0x01, 0x02, 0x03, 0x04, 0x05, 0x06, 0x10, 0x11, 0x12, 0x20, 0x30, 0x31, 0x40, 0x41, 0x42, 0x43,
        0x80, 0x81, 0x82, 0x83, 0x84, 0x85, 0x86, 0x88, 0x89] ∨
      (0x80 ≤ code.toNat ∧ line ≠ .internal)) →
    step s = .next (Spec.stateError code {} { s with requests := rest, line := line })

/-- Whatever the decoder makes of a datagram, the step is one RX.DGRAM of its bytes by the receive role (44 R260, 43
R221; log 8); RX.DGRAM as a command is the same on whatever line it comes in, and its status goes to the receive role and
not to the host (44 R270; logs 4, 5). -/
def Obligations.EveryDatagramIsOneRxDgram : Prop :=
  ∀ (s : State) (rest : List Presented),
    (∀ d : Bytes, s.requests = .datagram d :: rest →
      step s = exec (.rxDgram d) { s with requests := rest, line := .receiveRole }) ∧
    (∀ (line : Line) (f : Fields), s.requests = .command line 0x20 f :: rest →
      step s = exec (.rxDgram f.s) { s with requests := rest, line := .receiveRole }) ∧
    (∀ (t : State) (d : Bytes) (line : Line) (f : Fields),
      (s.requests = .datagram d :: rest ∨ s.requests = .command line 0x20 f :: rest) → step s = .next t →
      t.resp.map Response.line = some .receiveRole)

/-! ## Encoding -/

/-- Decoding what presents a well-formed operation or frame gives it back, with every operand at every value. -/
def Obligations.EncodedOperationsDecodeToThemselves : Prop :=
  ∀ (m : Mode) (i : Instr), m.flagsDiffer = true → wellFormed m i = true → decode m (encode m i) = .ok i

/-- A datagram that decodes to a frame is that frame's encoding, and the frame is well formed: no byte of a datagram is
dropped (30 R90, R97). -/
def Obligations.DecodedDatagramsEncodeToThemselves : Prop :=
  ∀ (m : Mode) (d : Bytes) (i : Instr),
    decode m (.datagram d) = .ok i → wellFormed m i = true ∧ encode m i = .datagram d

/-- A few words and frames written out from the spec. A word of one byte is read as the command byte (30 R100) and not as
a flag byte, and its operand fields are zeros: the model's reading (logs 6, 7); 0x89 and 0x87 are read on the core's own
line (log 4). The frames are those of 41 R143, R145 and R146 and of V-ENC 17. -/
def Obligations.SampleWordsDecode : Prop :=
  decodeTableWord 8 0x00 = some .reset ∧ decodeTableWord 8 0x11 = some (.txPoll 0) ∧
  decodeTableWord 8 0x43 = some (.dec []) ∧ decodeTableWord 8 0x89 = some (.crcByte 0) ∧ decodeTableWord 8 0x87 = none ∧
  decode Mode.default (.datagram
      [0x01, 0x02, 0, 0, 0, 0, 0x0a, 0x02, 0, 0, 0, 0, 0x0b, 0x03, 0x68, 0x69, 0xe5, 0x12]) =
    .ok (.frameData 0x02000000000a 0x02000000000b 3 [0x68, 0x69] 0xe512) ∧
  decode Mode.default (.datagram [0x02, 0x02, 0, 0, 0, 0, 0x0b, 0x02, 0, 0, 0, 0, 0x0a, 0x03, 0xbc, 0x8a]) =
    .ok (.frameAck 0x02000000000b 0x02000000000a 3 0xbc8a) ∧
  decode Mode.default (.datagram [0x03, 0x02, 0, 0, 0, 0, 0x0a, 0x02, 0, 0, 0, 0, 0x0b, 0x00, 0x83, 0x6a]) =
    .ok (.frameSync 0x02000000000a 0x02000000000b 0 0x836a) ∧
  decode { Mode.default with seqb := 2 } (.datagram
      [0x02, 0x02, 0, 0, 0, 0, 0x0b, 0x02, 0, 0, 0, 0, 0x0a, 0x01, 0x04, 0xca, 0xb1]) =
    .ok (.frameAck 0x02000000000b 0x02000000000a 260 0xcab1)

/-! ## The CRC unit -/

/-- CRC.INIT loads 0xFFFF (40 R125). That it answers OK, its row of 30 R100 naming no status, is 60 R290 and the model's
choice (log 15). -/
def Obligations.CrcInitLoadsAllOnes : Prop :=
  ∀ s : State, exec .crcInit s = .next (Spec.reply .ok .none (Spec.withAcc 0xFFFF s))

/-- CRC.BYTE folds one byte by eight bit steps and answers OK (log 15), which is the table form of 40 R123 with that rule's table entries. The
rule's remark that b = 0x00 changes every acc but 0 does not hold of its own pseudocode: 0xF01F stays (log 23). -/
def Obligations.CrcByteFoldsOneByte : Prop :=
  (∀ (b : Byte) (s : State), exec (.crcByte b) s = .next (Spec.reply .ok .none (Spec.withAcc (Spec.byteStep s.hid.acc b) s))) ∧
  (∀ (acc : BitVec 16) (b : Byte),
    Spec.byteStep acc b = (acc <<< 8) ^^^ Spec.tableEntry ((acc >>> 8).setWidth 8 ^^^ b)) ∧
  (List.range 16).map (fun i => Spec.tableEntry (BitVec.ofNat 8 i)) =
    [0x0000, 0x1021, 0x2042, 0x3063, 0x4084, 0x50A5, 0x60C6, 0x70E7, 0x8108, 0x9129, 0xA14A, 0xB16B, 0xC18C, 0xD1AD,
      0xE1CE, 0xF1EF] ∧
  Spec.tableEntry 0x31 = 0x2672 ∧ Spec.tableEntry 0x80 = 0x9188 ∧ Spec.tableEntry 0xFF = 0x1EF0 ∧
  Spec.byteStep 0 0 = 0 ∧ Spec.byteStep 0xF01F 0 = 0xF01F ∧ Spec.byteStep 0xFFFF 0x31 = 0xC782

/-- CRC16 returns the fold of CRC.BYTE over the string from 0xFFFF and writes nothing but the accumulator; the rule's
values (40 R124). The status OK beside the value is 60 R290 and the model's choice (log 15). -/
def Obligations.Crc16FoldsTheString : Prop :=
  (∀ (d : Bytes) (s : State),
    exec (.crc16 d) s =
      .next (Spec.reply .ok (.crc (d.foldl Spec.byteStep 0xFFFF)) (Spec.withAcc (d.foldl Spec.byteStep 0xFFFF) s))) ∧
  ([] : Bytes).foldl Spec.byteStep 0xFFFF = 0xFFFF ∧ ([0xFF, 0xFF] : Bytes).foldl Spec.byteStep 0xFFFF = 0 ∧
  ([0x00] : Bytes).foldl Spec.byteStep 0xFFFF = 0xE1F0 ∧ ([0x00, 0x00] : Bytes).foldl Spec.byteStep 0xFFFF = 0x1D0F ∧
  (List.range 9).map
      (fun k => (([0x31, 0x32, 0x33, 0x34, 0x35, 0x36, 0x37, 0x38, 0x39] : Bytes).take (k + 1)).foldl Spec.byteStep 0xFFFF) =
    [0xC782, 0x3DBA, 0x5BCE, 0x5349, 0x4560, 0x2EF4, 0x7718, 0xA12B, 0x29B1]

/-- CRC.CHK compares the check value of all but the last two bytes with the last two, high byte first; fewer than two
bytes are a StateError (40 R126). The status OK beside the bit is the model's choice (log 15), and so is the accumulator
left (log 21). -/
def Obligations.CrcChkComparesTheCheckField : Prop :=
  (∀ (d : Bytes) (hi lo : Byte) (s : State),
    exec (.crcChk (d ++ [hi, lo])) s =
      .next (Spec.reply .ok (.bit (decide ((crc16 d).toNat = 256 * hi.toNat + lo.toNat))) (Spec.withAcc (crc16 d) s))) ∧
  (∀ (d : Bytes) (s : State), d.length < 2 → exec (.crcChk d) s = .next (Spec.stateError 0x31 {} s))

/-- The laws of 40 R127: (b) the width; (c) one flipped bit changes the check value; (d) the residue is zero; (e) the
check value is affine in the message. (a) holds of every function. -/
def Obligations.CrcLaws : Prop :=
  (∀ d : Bytes, (crc16 d).toNat ≤ 0xFFFF) ∧
  (∀ (d : Bytes) (k : Nat), k < 8 * d.length → crc16 (Spec.flipBit d k) ≠ crc16 d) ∧
  (∀ (d : Bytes) (hi lo : Byte) (k : Nat), k < 8 * (d.length + 2) → crcMatches (d ++ [hi, lo]) = true →
    crcMatches (Spec.flipBit (d ++ [hi, lo]) k) = false) ∧
  (∀ d : Bytes, crc16 (d ++ beBytes 2 (crc16 d).toNat) = 0) ∧
  (∀ d e : Bytes, d.length = e.length → crc16 (Spec.xorBytes d e) ^^^ crc16 d = crcFrom 0 e)

/-! ## The frame codec -/

/-- On a configured core each encoder returns its frame and writes no architectural state, for every valid operand (41
R141 to R146). The hidden buffers it leaves, the frame in the staging buffer and its check value in the accumulator, are
the model's choice (logs 12, 21; 93 U7 leaves them open). -/
def Obligations.EncodersReturnTheFrame : Prop :=
  ∀ (s : State) (src dst : PeerId), s.ctl.cfgValid = true → src ≠ dst →
    (∀ (seq : Nat) (payload : Bytes), seq ≤ s.w → payload.length ≤ s.maxp →
      exec (.encData src dst seq payload) s =
        .next (Spec.reply .ok (.bytes (Spec.built s s.par.flagData src dst seq payload))
          (Spec.withStaged (Spec.body s s.par.flagData src dst seq payload)
            (Spec.built s s.par.flagData src dst seq payload) s))) ∧
    (∀ ack : Nat, ack ≤ s.w →
      exec (.encAck src dst ack) s =
        .next (Spec.reply .ok (.bytes (Spec.built s s.par.flagAck src dst ack []))
          (Spec.withStaged (Spec.body s s.par.flagAck src dst ack []) (Spec.built s s.par.flagAck src dst ack []) s))) ∧
    exec (.encSync src dst) s =
      .next (Spec.reply .ok (.bytes (Spec.built s s.par.flagSync src dst 0 []))
        (Spec.withStaged (Spec.body s s.par.flagSync src dst 0 []) (Spec.built s s.par.flagSync src dst 0 []) s))

/-- On a configured core the encoders refuse equal addresses first, then a number above W, then a long payload (41 R143,
R145, R146; 60 R304). Which fields the LOG record fills is the model's choice (log 16). -/
def Obligations.EncodersRefuseInOrder : Prop :=
  ∀ (s : State) (src dst : PeerId) (v : Nat) (payload : Bytes), s.ctl.cfgValid = true →
    let data : LogSubject := { peer := some dst, seq := some v }
    let ack : LogSubject := { peer := some dst, ack := some v }
    (src = dst →
      exec (.encData src dst v payload) s = .next (Spec.refusal 0x40 .peerIdentityCollision (.collision src) data s) ∧
      exec (.encAck src dst v) s = .next (Spec.refusal 0x41 .peerIdentityCollision (.collision src) ack s) ∧
      exec (.encSync src dst) s =
        .next (Spec.refusal 0x42 .peerIdentityCollision (.collision src) { peer := some dst } s)) ∧
    (src ≠ dst → s.w < v →
      exec (.encData src dst v payload) s = .next (Spec.refusal 0x40 .rangeError (.range v s.w) data s) ∧
      exec (.encAck src dst v) s = .next (Spec.refusal 0x41 .rangeError (.range v s.w) ack s)) ∧
    (src ≠ dst → v ≤ s.w → s.maxp < payload.length →
      exec (.encData src dst v payload) s =
        .next (Spec.refusal 0x40 .lengthError (.length payload.length none) data s))

/-- 41 R158: DEC of an encoded valid frame value returns it and writes no architectural state; and a datagram DEC accepts
is the encoding of what it returns, but for the sequence field of a Sync frame. That DEC leaves the check value in the
accumulator is the model's choice (log 21; 93 U7 leaves it open). -/
def Obligations.DecodingInvertsEncoding : Prop :=
  (∀ (s : State) (src dst : PeerId), s.ctl.cfgValid = true → s.par.flagsDiffer = true → src ≠ dst →
    (∀ (seq : Nat) (payload : Bytes), seq ≤ s.w → payload.length ≤ s.maxp →
      exec (.dec (Spec.built s s.par.flagData src dst seq payload)) s =
        .next (Spec.reply .ok (.frame (.data src dst seq payload))
          (Spec.withAcc (crc16 (Spec.body s s.par.flagData src dst seq payload)) s))) ∧
    (∀ ack : Nat, ack ≤ s.w →
      exec (.dec (Spec.built s s.par.flagAck src dst ack [])) s =
        .next (Spec.reply .ok (.frame (.ack src dst ack))
          (Spec.withAcc (crc16 (Spec.body s s.par.flagAck src dst ack [])) s))) ∧
    exec (.dec (Spec.built s s.par.flagSync src dst 0 [])) s =
      .next (Spec.reply .ok (.frame (.sync src dst))
        (Spec.withAcc (crc16 (Spec.body s s.par.flagSync src dst 0 [])) s))) ∧
  (∀ (s t : State) (d : Bytes) (r : Response), exec (.dec d) s = .next t → t.resp = some r → r.status = .ok →
    (∃ src dst seq payload, r.value = .frame (.data src dst seq payload) ∧ src ≠ dst ∧ seq ≤ s.w ∧
        payload.length ≤ s.maxp ∧ d = Spec.built s s.par.flagData src dst seq payload) ∨
    (∃ src dst ack, r.value = .frame (.ack src dst ack) ∧ src ≠ dst ∧ ack ≤ s.w ∧
        d = Spec.built s s.par.flagAck src dst ack []) ∨
    (∃ src dst v, r.value = .frame (.sync src dst) ∧ src ≠ dst ∧ v < 256 ^ s.seqb ∧
        d = Spec.built s s.par.flagSync src dst v []))

/-- The first test of DEC that fails names the status, and nothing is written but the LOG record (41 R150 to R156; 60
R291, R292, R297 to R299). That the accumulator holds the check value once the length test has passed is the model's
choice (log 21; 93 U7 leaves it open), and so is which fields the record fills (log 16). -/
def Obligations.DecTestsInOrder : Prop :=
  ∀ (s : State) (d : Bytes), s.ctl.cfgValid = true →
    (d = [] → exec (.dec d) s = .next (Spec.refusal 0x43 .lengthError (.length 0 none) {} s)) ∧
    (∀ f rest, d = f :: rest →
      (¬ Spec.flagKnown s d → exec (.dec d) s = .next (Spec.refusal 0x43 .formatError (.format f d.length) {} s)) ∧
      (Spec.flagKnown s d → ¬ Spec.lengthFits s d →
        exec (.dec d) s = .next (Spec.refusal 0x43 .lengthError (.length d.length (some f)) {} s)) ∧
      (Spec.flagKnown s d → Spec.lengthFits s d →
        let c := crc16 (d.take (d.length - 2))
        (c ≠ fieldCrc d →
          exec (.dec d) s = .next (Spec.refusal 0x43 .integrityError (.integrity c (fieldCrc d)) {} (Spec.withAcc c s))) ∧
        (c = fieldCrc d → (f = s.par.flagData ∨ f = s.par.flagAck) → s.w < unbe (slice d 13 (13 + s.seqb)) →
          exec (.dec d) s =
            .next (Spec.refusal 0x43 .rangeError (.range (unbe (slice d 13 (13 + s.seqb))) s.w) (Spec.aboutBytes s d)
              (Spec.withAcc c s))) ∧
        (c = fieldCrc d → ((f ≠ s.par.flagData ∧ f ≠ s.par.flagAck) ∨ unbe (slice d 13 (13 + s.seqb)) ≤ s.w) →
          slice d 1 7 = slice d 7 13 →
          exec (.dec d) s =
            .next (Spec.refusal 0x43 .peerIdentityCollision (.collision (fieldSrc d)) (Spec.aboutBytes s d)
              (Spec.withAcc c s)))))

/-- 41 R160: a datagram DEC accepts is never accepted with one bit flipped: IntegrityError outside the flag byte; in it
FormatError, LengthError or IntegrityError by the new flag. The 18-byte example gives 136, 7 and 1. -/
def Obligations.OneFlippedBitIsNeverAccepted : Prop :=
  (∀ (s : State) (d : Bytes) (x : FrameVal) (k : Nat), s.ctl.cfgValid = true → decFrame s d = .ok x → k < 8 * d.length →
    ∃ t r, exec (.dec (Spec.flipBit d k)) s = .next t ∧ t.resp = some r ∧ r.value = .none ∧
      (8 ≤ k → r.status = .integrityError) ∧
      (k < 8 → ¬ Spec.flagKnown s (Spec.flipBit d k) → r.status = .formatError) ∧
      (k < 8 → Spec.flagKnown s (Spec.flipBit d k) → ¬ Spec.lengthFits s (Spec.flipBit d k) → r.status = .lengthError) ∧
      (k < 8 → Spec.flagKnown s (Spec.flipBit d k) → Spec.lengthFits s (Spec.flipBit d k) →
        r.status = .integrityError)) ∧
  (∀ s : State, s.ctl.cfgValid = true → s.par = Params.default → s.w = 4 → s.maxp = 1024 →
    let d := Spec.built s 0x01 0x02000000000a 0x02000000000b 3 [0x68, 0x69]
    let count := fun st : Status => (List.range 144).countP fun k =>
      match exec (.dec (Spec.flipBit d k)) s with
      | .next t => t.resp.any (fun r => r.status == st)
      | .fault _ => false
      | .refused _ => false
    count .integrityError = 136 ∧ count .formatError = 7 ∧ count .lengthError = 1)

/-! ## The host operations -/

/-- RESET, in any state, zeroes every register and flag, empties every slot and both tables and answers OK; in that state
every register reads 0 (70 R330, R331). That everything else keeps its value, the hidden buffers that 70 R332 leaves
unspecified, the source and the histories of TXF, SINK and LOG among it, is the model's choice (logs 9, 12, 14). -/
def Obligations.ResetGivesTheResetValues : Prop :=
  (∀ s : State, ∃ t, exec .reset s = .next t ∧
    t = Spec.reply .ok .none
      { s with
        cfg := { w := 0, maxp := 0, initSeq := 0, tmo := 0, localId := 0 }
        ctl := { rxEn := false, cfgValid := false, seqMod := 0, seqBytes := 0 }
        tx :=
          { slots := t.tx.slots, dest := 0, unusedPoint := 0, cursor := 0, eosValid := false, eos := 0,
            exhausted := false, aborted := false, txState := .idle, framesSent := 0, bytesSent := 0 }
        rxTab := []
        ackTab := [] } ∧
    (∀ i, Spec.isEmpty (t.slot i) ∧ (t.slot i).sendTime = 0) ∧
    (∀ e ∈ Spec.registers t, exec (.csrRead e.1) t = .next (Spec.reply .ok (.register 0) t)))

/-- On an unconfigured core every protocol operation is refused with StateError and does nothing (70 R333, 60 R296); the
record of a refused TX.POLL has `dest` and `u` (42 R200). Which fields a record fills is the model's choice (log 16). -/
def Obligations.UnconfiguredCoreRefusesProtocolOperations : Prop :=
  ∀ s : State, s.ctl.cfgValid = false →
    exec .rxRun s = .next (Spec.stateError 0x04 {} s) ∧
    (∀ d, exec (.syncSend d) s = .next (Spec.stateError 0x06 { peer := some d } s)) ∧
    (∀ d, exec (.txStart d) s = .next (Spec.stateError 0x10 { peer := some d } s)) ∧
    (∀ now, exec (.txPoll now) s = .next (Spec.pollRefused s)) ∧
    exec .txAbort s = .next (Spec.stateError 0x12 {} s) ∧
    (∀ d, exec (.rxDgram d) s = .next (Spec.stateError 0x20 {} s)) ∧
    (∀ src dst seq payload,
      exec (.encData src dst seq payload) s = .next (Spec.stateError 0x40 { peer := some dst, seq := some seq } s)) ∧
    (∀ src dst ack, exec (.encAck src dst ack) s = .next (Spec.stateError 0x41 { peer := some dst, ack := some ack } s)) ∧
    (∀ src dst, exec (.encSync src dst) s = .next (Spec.stateError 0x42 { peer := some dst } s)) ∧
    (∀ d, exec (.dec d) s = .next (Spec.stateError 0x43 {} s))

/-- CFG.SET writes the one register and clears CFG_VALID; during a transfer, while the receive role runs, or for another
register number it is refused (44 R262). Of a value wider than its register the low bits are stored: the model's choice
(log 6), since the rule takes a value of the register's width. -/
def Obligations.CfgSetWritesOneRegister : Prop :=
  ∀ (s : State) (r : Nat) (v : BitVec 48),
    (¬ Spec.locked s → r ≤ 4 →
      exec (.cfgSet r v) s =
        .next (Spec.reply .ok .none
          { s with cfg := Spec.withRegister r v s.cfg, ctl := { s.ctl with cfgValid := false } })) ∧
    ((Spec.locked s ∨ 4 < r) → exec (.cfgSet r v) s = .next (Spec.stateError 0x01 {} s))

/-- CFG.COMMIT of a legal configuration clears the protocol state, every slot EMPTY, and puts N, the smallest SEQB and
CFG_VALID in force, keeping the rest (44 R263, 30 R94). -/
def Obligations.CfgCommitPutsLegalConfigurationInForce : Prop :=
  ∀ s : State, ¬ Spec.locked s →
    1 ≤ s.w → s.w ≤ s.par.wMax → 1 ≤ s.maxp → s.maxp ≤ 4096 → s.initSeq ≤ 254 → s.initSeq ≤ s.w →
    ∃ t n, exec .cfgCommit s = .next t ∧
      t = Spec.reply .ok .none
        { s with rxTab := [], ackTab := [], tx := { Sender.reset with slots := t.tx.slots },
                 ctl := { rxEn := s.ctl.rxEn, cfgValid := true, seqMod := s.cfg.w + 1, seqBytes := n } } ∧
      (∀ i, Spec.isEmpty (t.slot i)) ∧
      1 ≤ n.toNat ∧ s.w + 1 ≤ 256 ^ n.toNat ∧ (∀ m, 1 ≤ m → m < n.toNat → 256 ^ m < s.w + 1)

/-- CFG.COMMIT of an illegal configuration clears the protocol state all the same, leaves the core unconfigured and
raises ConfigurationError with the number of the first failing test and its value; when configuration is locked it is
refused and does nothing (44 R263; 60 R295, R300, R304). -/
def Obligations.CfgCommitRefusesIllegalConfiguration : Prop :=
  ∀ s : State,
    (Spec.locked s → exec .cfgCommit s = .next (Spec.stateError 0x02 {} s)) ∧
    (∀ test value, ¬ Spec.locked s →
      ((test = 1 ∧ value = s.cfg.w ∧ ¬ (1 ≤ s.w ∧ s.w ≤ s.par.wMax)) ∨
        (test = 2 ∧ value = s.cfg.maxp ∧ (1 ≤ s.w ∧ s.w ≤ s.par.wMax) ∧ ¬ (1 ≤ s.maxp ∧ s.maxp ≤ 4096)) ∨
        (test = 3 ∧ value = s.cfg.initSeq ∧ (1 ≤ s.w ∧ s.w ≤ s.par.wMax) ∧ (1 ≤ s.maxp ∧ s.maxp ≤ 4096) ∧
          254 < s.initSeq) ∨
        (test = 4 ∧ value = s.cfg.initSeq ∧ (1 ≤ s.w ∧ s.w ≤ s.par.wMax) ∧ (1 ≤ s.maxp ∧ s.maxp ≤ 4096) ∧
          s.initSeq ≤ 254 ∧ s.w < s.initSeq)) →
      ∃ t, exec .cfgCommit s = .next t ∧
        t = Spec.refusal 0x02 .configurationError (.config test value) {}
          { s with rxTab := [], ackTab := [], tx := { Sender.reset with slots := t.tx.slots },
                   ctl := { rxEn := s.ctl.rxEn, cfgValid := false, seqMod := 0, seqBytes := 0 } } ∧
        ∀ i, Spec.isEmpty (t.slot i))

/-- CSR.READ returns each register of 10 R40 and R41, in every state and with no side effect; every other number is a
StateError (44 R261). -/
def Obligations.CsrReadReturnsTheRegister : Prop :=
  ∀ s : State,
    (∀ e ∈ Spec.registers s,
      exec (.csrRead e.1) s = .next (Spec.reply .ok (.register (BitVec.ofNat 64 e.2)) s)) ∧
    (∀ r, r ∉ (Spec.registers s).map Prod.fst → exec (.csrRead r) s = .next (Spec.stateError 0x03 {} s))

/-- RX.RUN sets RX_EN on a configured core and clears no table; RX.STOP clears it in any state, and a datagram that comes
then is refused (44 R264, R265; 43 R232). -/
def Obligations.RxRunAndRxStopSwitchTheReceiveRole : Prop :=
  ∀ s : State,
    (s.ctl.cfgValid = true → exec .rxRun s = .next (Spec.reply .ok .none { s with ctl := { s.ctl with rxEn := true } })) ∧
    exec .rxStop s = .next (Spec.reply .ok .none { s with ctl := { s.ctl with rxEn := false } }) ∧
    (∀ (t : State) (d : Bytes), exec .rxStop s = .next t → exec (.rxDgram d) t = .next (Spec.stateError 0x20 {} t))

/-- SYNC.SEND emits one unimpaired Sync frame, logs it, and writes no other architectural state; to the core itself it is
refused (44 R266). The hidden buffers it leaves are the model's choice (log 21; 93 U7 leaves them open). -/
def Obligations.SyncSendEmitsOneSyncFrame : Prop :=
  ∀ (s : State) (d : PeerId), s.ctl.cfgValid = true →
    (d ≠ s.localId →
      exec (.syncSend d) s =
        .next (Spec.reply .ok .none
          (Spec.logged 0x06 .ok (.peer d) { peer := some d }
            { Spec.withStaged (Spec.body s s.par.flagSync s.localId d 0 [])
                (Spec.built s s.par.flagSync s.localId d 0 []) s with
              txf := s.txf ++
                [{ bytes := Spec.built s s.par.flagSync s.localId d 0 [], kind := .sync, impaired := false }] }))) ∧
    (d = s.localId →
      exec (.syncSend d) s = .next (Spec.refusal 0x06 .peerIdentityCollision (.collision d) { peer := some d } s))

/-! ## The sender -/

/-- TX.START on a configured, idle core with a source that keeps its contract: the first W chunks stand in the slots from
INIT on, every other slot of the window is empty, and all registers are as 42 R183 to R185 set them. -/
def Obligations.TxStartFillsTheWindow : Prop :=
  ∀ (s : State) (d : PeerId), s.ctl.cfgValid = true → ¬ Spec.transfers s → d ≠ s.localId → s.initSeq ≤ s.w →
    srcKeepsContract s = true →
    let cs := Spec.leadingChunks s.w s.src
    let ended := decide (cs.length < s.w)
    ∃ t, exec (.txStart d) s = .next t ∧
      t = Spec.reply .ok .none
        { s with
          src := s.src.drop (if ended then cs.length + 1 else cs.length)
          ackTab := []
          hid := { s.hid with acc := t.hid.acc }
          tx :=
            { slots := t.tx.slots, dest := d, unusedPoint := (s.initSeq + s.w) % (s.w + 1), cursor := s.initSeq,
              exhausted := ended, eosValid := ended,
              eos := if ended then (s.initSeq + cs.length) % (s.w + 1) else 0,
              aborted := false, framesSent := 0, bytesSent := 0,
              txState := if ended then (if cs.length = 0 then .done else .drain) else .fill } } ∧
      (∀ (k : Nat) (c : Bytes), cs[k]? = some c →
        Spec.isFilled s d ((s.initSeq + k) % (s.w + 1)) c (t.slot ((s.initSeq + k) % (s.w + 1)))) ∧
      (∀ k, cs.length ≤ k → k ≤ s.w → Spec.isEmpty (t.slot ((s.initSeq + k) % (s.w + 1)))) ∧
      (∀ i, s.w < i → t.slot i = s.slot i)

/-- The refusals of the sender's operations: TX.START during a transfer or to the core itself, TX.POLL and TX.ABORT
without a transfer; nothing is pulled, drained or written, and the record of the poll has `dest` and `u` (42 R182, R190,
R200, R201; 60 R304). -/
def Obligations.SenderRefusesInTheWrongState : Prop :=
  ∀ (s : State) (d : PeerId) (now : Nat), s.ctl.cfgValid = true →
    (Spec.transfers s → exec (.txStart d) s = .next (Spec.stateError 0x10 { peer := some d } s)) ∧
    (¬ Spec.transfers s → d = s.localId →
      exec (.txStart d) s = .next (Spec.refusal 0x10 .peerIdentityCollision (.collision d) { peer := some d } s)) ∧
    (¬ Spec.transfers s →
      exec (.txPoll now) s = .next (Spec.pollRefused s) ∧ exec .txAbort s = .next (Spec.stateError 0x12 {} s))

/-- TX.SLIDE a frees the slots from inc(u) to a, fills those from u to the one before a with new chunks in order until
the source is exhausted, and moves u to a; nothing else architectural changes (42 R186 to R188). That it answers OK is the
model's choice (log 15). -/
def Obligations.TxSlideFreesAndRefills : Prop :=
  ∀ (s : State) (a : Nat), slotsWf s.tx.slots = true → a ≤ s.w → s.tx.unusedPoint ≤ s.w → srcKeepsContract s = true →
    let u := s.tx.unusedPoint
    let k := cycDist s.n u a
    let cs := if s.tx.exhausted then [] else Spec.leadingChunks k s.src
    let met := decide (s.tx.exhausted = false ∧ cs.length < k)
    ∃ t, exec (.txSlide a) s = .next t ∧
      t = Spec.reply .ok .none
        { s with
          src := s.src.drop (if met then cs.length + 1 else cs.length)
          hid := { s.hid with acc := t.hid.acc }
          tx := { s.tx with
            slots := t.tx.slots
            unusedPoint := a
            exhausted := s.tx.exhausted || met
            eosValid := s.tx.eosValid || met
            eos := if met then (u + cs.length) % (s.w + 1) else s.tx.eos } } ∧
      (∀ (j : Nat) (c : Bytes), cs[j]? = some c →
        Spec.isFilled s s.tx.dest ((u + j) % (s.w + 1)) c (t.slot ((u + j) % (s.w + 1)))) ∧
      (∀ j, 1 ≤ j → j ≤ k → cs.length ≤ j → Spec.isEmpty (t.slot ((u + j) % (s.w + 1)))) ∧
      (cs = [] → t.slot u = s.slot u) ∧
      (∀ i, (∀ j, j ≤ k → i ≠ (u + j) % (s.w + 1)) → t.slot i = s.slot i) ∧
      (a = u → t = Spec.reply .ok .none s)

/-- A number above W given to TX.SLIDE, ACK.POST or RX.ACK, or found in the ack table by TX.POLL, is taken as some number
of [0, W], about which nothing is said: the operation completes and does all else that its rule gives (log 11: the model's
choice where 20 R71 and 42 R186 state no result). A chunk longer than MAXP is the one input that stops the machine (42
R181, 93 U3; log 10). -/
def Obligations.NumbersAboveWAreTakenAsSomeNumberOfTheWindow : Prop :=
  (∀ (s : State) (a : Nat), s.w < a → srcKeepsContract s = true →
    ∃ b t, b ≤ s.w ∧ exec (.txSlide a) s = .next t ∧ exec (.txSlide b) { s with free := s.free + 1 } = .next t) ∧
  (∀ (s : State) (p : PeerId) (a : Nat), s.w < a →
    ∃ b t, b ≤ s.w ∧ exec (.ackPost p a) s = .next t ∧ exec (.ackPost p b) { s with free := s.free + 1 } = .next t) ∧
  (∀ (s : State) (src dst : PeerId) (a : Nat), s.w < a → ¬ Spec.full s.ackTab src s →
    ∃ b t, b ≤ s.w ∧ exec (.rxAck src dst a) s = .next t ∧
      t = Spec.reply .okAck .none
        (Spec.logged 0x85 .okAck (.ack src a) { peer := some src, ack := some a }
          { s with ackTab := t.ackTab, free := s.free + 1 }) ∧
      ∀ q, tableFind t.ackTab q = if q = src.toNat then some b else tableFind s.ackTab q) ∧
  (∀ (s : State) (now a : Nat), Spec.mayPoll s → Spec.ackFor s = some a → s.w < a → srcKeepsContract s = true →
    ∃ b t, b ≤ s.w ∧ exec (.txPoll now) s = .next t ∧
      exec (.txPoll now) { s with ackTab := [(s.tx.dest.toNat, b)], free := s.free + 1 } = .next t) ∧
  (∀ (s : State) (d : PeerId) (c : Bytes) (rest : List SrcAnswer), s.ctl.cfgValid = true → ¬ Spec.transfers s →
    d ≠ s.localId → 1 ≤ s.w → s.src = .chunk c :: rest → s.maxp < c.length →
    exec (.txStart d) s = .fault (.srcChunkTooLong c.length))

/-- TX.TOCHK answers whether the window is healthy and writes nothing (42 R189). The status OK beside the bit is 60 R290
and the model's choice (log 15). -/
def Obligations.TxTochkJudgesTheOldestSlot : Prop :=
  ∀ (s : State) (now : Nat),
    (Spec.unhealthy now s → exec (.txTochk now) s = .next (Spec.reply .ok (.bit false) s)) ∧
    (¬ Spec.unhealthy now s → exec (.txTochk now) s = .next (Spec.reply .ok (.bit true) s))

/-- A healthy poll with no acknowledgement sends the frame at the cursor from its slot, stamps the slot, counts it and
moves the cursor on (42 R199). -/
def Obligations.TxPollTransmitsAtTheCursor : Prop :=
  ∀ (s : State) (now : Nat), Spec.mayPoll s → Spec.ackFor s = none → ¬ Spec.unhealthy now s →
    s.tx.cursor ≠ s.tx.unusedPoint → (s.slot s.tx.cursor).valid = true →
    let k := s.tx.cursor
    let v := s.slot k
    ∃ t, exec (.txPoll now) s = .next t ∧
      t = Spec.polled .pollSent (.sent k v.status) (some k) (some v.status) none
        { Spec.judged s with
          txf := s.txf ++ [{ bytes := v.frame.take v.flen.toNat, kind := .data, impaired := true }]
          tx := { (Spec.judged s).tx with
            slots := t.tx.slots
            framesSent := (s.tx.framesSent + 1) % 2 ^ s.par.ctrBits
            bytesSent := (s.tx.bytesSent + v.flen.toNat) % 2 ^ s.par.ctrBits
            cursor := (k + 1) % (s.w + 1) } } ∧
      ∀ i, t.slot i = if i = k then { v with stamped := true, sendTime := now % 2 ^ s.par.tsBits } else s.slot i

/-- A healthy poll with no acknowledgement idles when the cursor has caught up, and steps over an empty slot otherwise
(42 R197, R198). -/
def Obligations.TxPollIdlesOrSkips : Prop :=
  ∀ (s : State) (now : Nat), Spec.mayPoll s → Spec.ackFor s = none → ¬ Spec.unhealthy now s →
    (s.tx.cursor = s.tx.unusedPoint →
      exec (.txPoll now) s = .next (Spec.polled .pollIdle .none none none none (Spec.judged s))) ∧
    (s.tx.cursor ≠ s.tx.unusedPoint → (s.slot s.tx.cursor).valid = false →
      exec (.txPoll now) s =
        .next (Spec.polled .pollSkip (.number s.tx.cursor) (some s.tx.cursor) none none
          { Spec.judged s with tx := { (Spec.judged s).tx with cursor := (s.tx.cursor + 1) % (s.w + 1) } }))

/-- An unhealthy poll with no acknowledgement rewinds: every pending slot from beginPoint up to the old cursor is marked
and unset, the cursor goes back, nothing is sent (42 R194). -/
def Obligations.TxPollRewinds : Prop :=
  ∀ (s : State) (now : Nat), Spec.mayPoll s → Spec.ackFor s = none → Spec.unhealthy now s →
    let b := s.beginPoint
    ∃ t, exec (.txPoll now) s = .next t ∧
      t = Spec.polled .pollRewind (.number b) (some b) none none
        { Spec.judged s with tx := { (Spec.judged s).tx with slots := t.tx.slots, cursor := b } } ∧
      ∀ i, t.slot i =
        if (s.slot i).valid = true ∧ i ∈ cycRange s.n b s.tx.cursor then
          { s.slot i with stamped := false, status := if i = b then .timedOut else .retransmitted }
        else if i = b then { s.slot i with stamped := false }
        else s.slot i

/-- The tie-break: a poll whose acknowledgement freed the slot the cursor stands on, and that finds the window unhealthy
after the slide, marks no slot and unsets only the slot at the new beginPoint. The distances compared, the kept statuses and
the kept timestamps are 42 R195's own reading of its source, decision D13, which the spec calls its least certain one (91
N19, 93 S1) and the model follows (log 27). -/
def Obligations.TxPollTieBreak : Prop :=
  ∀ (s s1 : State) (now a : Nat), Spec.mayPoll s → Spec.ackFor s = some a → a ≤ s.w →
    slideTo a { s with ackTab := [] } = .ok s1 →
    ¬ Spec.terminal a s1 → Spec.unhealthy now s1 → Spec.cursorFreed a s →
    ∃ t, exec (.txPoll now) s = .next t ∧
      t = Spec.polled .pollRewind (.number s1.beginPoint) (some s1.beginPoint) none (some a)
        { Spec.judged s1 with tx := { (Spec.judged s1).tx with slots := t.tx.slots, cursor := s1.beginPoint } } ∧
      ∀ i, t.slot i = if i = s1.beginPoint then { s1.slot i with stamped := false } else s1.slot i

/-- A terminal acknowledgement ends the poll and the transfer: every slot is emptied, the registers keep their values
(42 R192). -/
def Obligations.TxPollEndsOnTheTerminalAck : Prop :=
  ∀ (s s1 : State) (now a : Nat), Spec.mayPoll s → Spec.ackFor s = some a → a ≤ s.w →
    slideTo a { s with ackTab := [] } = .ok s1 →
    Spec.terminal a s1 →
    ∃ t, exec (.txPoll now) s = .next t ∧
      t = Spec.polled .pollDone (.number a) none none (some a)
        { s1 with tx := { s1.tx with slots := t.tx.slots, txState := .done } } ∧
      ∀ i, i ≤ s.w → Spec.isEmpty (t.slot i)

/-- A poll with an acknowledgement that is neither terminal nor a tie-break does what a poll without one does after the
slide, with the cursor first put on beginPoint when the window is healthy and the slide freed the slot it stood on
(42 R190, R194, R196). Which polls are a tie-break and so fall outside is the reading D13 of 42 R195 (91 N19, 93 S1; log
27). -/
def Obligations.TxPollSlidesThenActs : Prop :=
  ∀ (s s1 : State) (now a : Nat), Spec.mayPoll s → Spec.ackFor s = some a → a ≤ s.w →
    slideTo a { s with ackTab := [] } = .ok s1 →
    ¬ Spec.terminal a s1 → ¬ (Spec.unhealthy now s1 ∧ Spec.cursorFreed a s) →
    ∃ t t', exec (.txPoll now) s = .next t ∧
      ((Spec.unhealthy now s1 ∨ ¬ Spec.normalises a s) → exec (.txPoll now) s1 = .next t') ∧
      (¬ Spec.unhealthy now s1 → Spec.normalises a s →
        exec (.txPoll now) { s1 with tx := { s1.tx with cursor := s1.beginPoint } } = .next t') ∧
      { t with log := [] } = { t' with log := [] }

/-- After a rewind or a tie-break the next poll sends the slot at beginPoint, whatever the time, so a second rewind
cannot come first (42 R194, R206 (b)). -/
def Obligations.RewindIsFollowedByASend : Prop :=
  ∀ (s t : State) (now later : Nat) (r : Response), 1 ≤ s.w → s.tx.unusedPoint ≤ s.w →
    exec (.txPoll now) s = .next t → t.resp = some r → r.status = .pollRewind →
    ∃ v, exec (.txPoll later) t = .next v ∧
      v.resp = some { line := t.line, status := .pollSent, value := .sent t.beginPoint (t.slot t.beginPoint).status }

/-- TX.ABORT empties every slot of the window, sets `aborted` and goes to DONE; everything else keeps its value (42
R201). -/
def Obligations.TxAbortReleasesTheWindow : Prop :=
  ∀ s : State, Spec.mayPoll s →
    ∃ t, exec .txAbort s = .next t ∧
      t = Spec.reply .ok .none { s with tx := { s.tx with slots := t.tx.slots, aborted := true, txState := .done } } ∧
      (∀ i, i ≤ s.w → Spec.isEmpty (t.slot i)) ∧ (∀ i, s.w < i → t.slot i = s.slot i)

/-- The transition table of txState, and no other operation writes it (42 R203). -/
def Obligations.TxStateFollowsTheTransitionTable : Prop :=
  ∀ (i : Instr) (s t : State), exec i s = .next t →
    match i with
    | .reset => t.tx.txState = .idle
    | .cfgCommit => (Spec.locked s → t.tx.txState = s.tx.txState) ∧ (¬ Spec.locked s → t.tx.txState = .idle)
    | .txStart _ =>
      (t.resp.map Response.status ≠ some .ok → t.tx.txState = s.tx.txState) ∧
      (t.resp.map Response.status = some .ok →
        ¬ Spec.transfers s ∧
        t.tx.txState = if t.tx.exhausted then (if t.tx.eos = s.initSeq then .done else .drain) else .fill)
    | .txAbort =>
      (Spec.mayPoll s → t.tx.txState = .done ∧ t.tx.aborted = true) ∧ (¬ Spec.mayPoll s → t.tx.txState = s.tx.txState)
    | .txPoll _ =>
      (¬ Spec.mayPoll s → t.tx.txState = s.tx.txState) ∧
      (Spec.mayPoll s → (∀ a, Spec.ackFor s = some a → a ≤ s.w) →
        ((∃ a, Spec.ackFor s = some a ∧ Spec.terminal a t) → t.tx.txState = .done) ∧
        ((¬ ∃ a, Spec.ackFor s = some a ∧ Spec.terminal a t) →
          t.tx.txState = if t.tx.exhausted then .drain else s.tx.txState))
    | _ => t.tx.txState = s.tx.txState

/-! ## The receiver -/

/-- RX.DATA of the expected number: the payload goes to the sink, expectedSeq advances, the Ack carries the number
(43 R223, R227). The hidden buffers left are the model's choice (log 21; 93 U7 leaves them open). -/
def Obligations.RxDataAcceptsTheExpectedNumber : Prop :=
  ∀ (s : State) (src dst : PeerId) (payload : Bytes), ¬ Spec.full s.rxTab src s →
    let e := Spec.expectedSeq s src
    ∃ t, exec (.rxData src dst e payload) s = .next t ∧
      t = Spec.acknowledged .okData src e e e
        { s with rxTab := t.rxTab, sink := s.sink ++ [{ srcPeer := src, payload := payload }] } ∧
      ∀ q, tableFind t.rxTab q = if q = src.toNat then some ((e + 1) % (s.w + 1)) else tableFind s.rxTab q

/-- RX.DATA of another number: the payload is discarded, the backward acknowledgement goes out, an entry is created on
first contact; a full table drops the frame (43 R223, R224; 60 R294, R301). The hidden buffers left are the model's choice
(log 21; 93 U7 leaves them open). -/
def Obligations.RxDataAnswersAMismatch : Prop :=
  ∀ (s : State) (src dst : PeerId) (seq : Nat) (payload : Bytes),
    (¬ Spec.full s.rxTab src s → seq ≠ Spec.expectedSeq s src →
      let e := Spec.expectedSeq s src
      ∃ t, exec (.rxData src dst seq payload) s = .next t ∧
        t = Spec.acknowledged .sequenceMismatch src seq e ((e + s.w) % (s.w + 1)) { s with rxTab := t.rxTab } ∧
        ∀ q, tableFind t.rxTab q = if q = src.toNat then some e else tableFind s.rxTab q) ∧
    (Spec.full s.rxTab src s →
      exec (.rxData src dst seq payload) s =
        .next (Spec.refusal 0x84 .tableFull (.peer src) { peer := some src, seq := some seq } s))

/-- 43 R225: in both branches the number sent is add(e', W) with e' the expectedSeq after the operation; exactly one Ack
goes out, to the source. -/
def Obligations.AckNumberIsOneBeforeExpected : Prop :=
  ∀ (s t : State) (src dst : PeerId) (seq : Nat) (payload : Bytes), Spec.expectedSeq s src ≤ s.w →
    ¬ Spec.full s.rxTab src s → exec (.rxData src dst seq payload) s = .next t →
    t.txf = s.txf ++
      [{ bytes := Spec.built s s.par.flagAck s.localId src ((Spec.expectedSeq t src + s.w) % (s.w + 1)) [],
         kind := .ack, impaired := true }]

/-- ACK.POST writes one entry of the ack table, the last write winning, and nothing else; ACK.DRAIN returns the whole map
and leaves it empty (20 R71, R72). The status OK of both is 60 R290 and the model's choice (log 15). -/
def Obligations.AckTableIsPostedAndDrained : Prop :=
  (∀ (s : State) (p : PeerId) (a : Nat), a ≤ s.w →
    ∃ t, exec (.ackPost p a) s = .next t ∧ t = Spec.reply .ok .none { s with ackTab := t.ackTab } ∧
      ∀ q, tableFind t.ackTab q = if q = p.toNat then some a else tableFind s.ackTab q) ∧
  (∀ s : State, exec .ackDrain s = .next (Spec.reply .ok (.map s.ackTab) { s with ackTab := [] }))

/-- RX.ACK posts the acknowledgement of its source, whatever the sender does; a full table drops it (43 R228). -/
def Obligations.RxAckPostsTheNumber : Prop :=
  ∀ (s : State) (src dst : PeerId) (ack : Nat),
    (ack ≤ s.w → ¬ Spec.full s.ackTab src s →
      ∃ t, exec (.rxAck src dst ack) s = .next t ∧
        t = Spec.reply .okAck .none
          (Spec.logged 0x85 .okAck (.ack src ack) { peer := some src, ack := some ack } { s with ackTab := t.ackTab }) ∧
        ∀ q, tableFind t.ackTab q = if q = src.toNat then some ack else tableFind s.ackTab q) ∧
    (Spec.full s.ackTab src s →
      exec (.rxAck src dst ack) s =
        .next (Spec.refusal 0x85 .tableFull (.peer src) { peer := some src, ack := some ack } s))

/-- RX.SYNC removes the entry of its source and touches nothing else, so the next frame is expected at INIT (43 R229). -/
def Obligations.RxSyncRemovesTheEntry : Prop :=
  ∀ (s : State) (src dst : PeerId), tableWf s.rxTab = true →
    ∃ t, exec (.rxSync src dst) s = .next t ∧
      t = Spec.reply .okSync .none
        (Spec.logged 0x86 .okSync (.peer src) { peer := some src } { s with rxTab := t.rxTab }) ∧
      (∀ q, tableFind t.rxTab q = if q = src.toNat then none else tableFind s.rxTab q) ∧
      Spec.expectedSeq t src = s.initSeq

/-- A datagram that DEC refuses or that is addressed elsewhere is dropped with its status and one LOG record; only the
hidden state differs (43 R221, R222, R230; 30 R98). -/
def Obligations.RxDgramDropsWhatItCannotTake : Prop :=
  ∀ (s : State) (d : Bytes), s.ctl.cfgValid = true → s.ctl.rxEn = true →
    (∀ e : Failure, decFrame s d = .error e →
      ∃ t, exec (.rxDgram d) s = .next t ∧
        t = Spec.refusal 0x20 e.status e.info e.subject { s with hid := t.hid }) ∧
    (∀ x, decFrame s d = .ok x → frameDst x ≠ s.localId →
      ∃ t, exec (.rxDgram d) s = .next t ∧
        t = Spec.refusal 0x20 .addressMismatch (.address (frameSrc x) (frameDst x) (frameKind x)) (Spec.aboutFrame x)
          { s with hid := t.hid })

/-- A valid frame addressed to the core, arriving as a frame or as the operand of RX.DGRAM, is RX.DATA, RX.ACK or RX.SYNC
of its fields, and that completes (43 R221). The Sync's sequence field is not looked at. That a frame arriving is one
RX.DGRAM is log 8, and what the accumulator then holds is the model's choice (log 21; 93 U7 leaves it open). -/
def Obligations.FramesForThisCoreAreDispatched : Prop :=
  ∀ (s : State) (src : PeerId), s.ctl.cfgValid = true → s.ctl.rxEn = true → s.par.flagsDiffer = true → src ≠ s.localId →
    (∀ (seq : Nat) (payload : Bytes), seq ≤ s.w → payload.length ≤ s.maxp →
      let d := Spec.built s s.par.flagData src s.localId seq payload
      ∃ t, exec (.frameData src s.localId seq payload (crc16 (Spec.body s s.par.flagData src s.localId seq payload))) s = .next t ∧
        exec (.rxDgram d) s = .next t ∧ exec (.rxData src s.localId seq payload) (Spec.withDatagram d s) = .next t) ∧
    (∀ ack : Nat, ack ≤ s.w →
      let d := Spec.built s s.par.flagAck src s.localId ack []
      ∃ t, exec (.frameAck src s.localId ack (crc16 (Spec.body s s.par.flagAck src s.localId ack []))) s = .next t ∧
        exec (.rxDgram d) s = .next t ∧ exec (.rxAck src s.localId ack) (Spec.withDatagram d s) = .next t) ∧
    (∀ v : Nat, v < 256 ^ s.seqb →
      let d := Spec.built s s.par.flagSync src s.localId v []
      ∃ t, exec (.frameSync src s.localId v (crc16 (Spec.body s s.par.flagSync src s.localId v []))) s = .next t ∧
        exec (.rxDgram d) s = .next t ∧ exec (.rxSync src s.localId) (Spec.withDatagram d s) = .next t)

/-- A frame whose check field is wrong is dropped with IntegrityError and one LOG record, whatever its other fields
(41 R153, 43 R231, 60 R292). -/
def Obligations.FramesWithAWrongCheckFieldAreDropped : Prop :=
  ∀ (s : State) (src dst : PeerId) (v : Nat) (crc : BitVec 16), s.ctl.cfgValid = true → s.ctl.rxEn = true →
    s.par.flagsDiffer = true →
    (∀ payload : Bytes, payload.length ≤ s.maxp → crc ≠ crc16 (Spec.body s s.par.flagData src dst v payload) →
      ∃ t, exec (.frameData src dst v payload crc) s = .next t ∧
        t = Spec.refusal 0x20 .integrityError (.integrity (crc16 (Spec.body s s.par.flagData src dst v payload)) crc) {}
          { s with hid := t.hid }) ∧
    (crc ≠ crc16 (Spec.body s s.par.flagAck src dst v []) →
      ∃ t, exec (.frameAck src dst v crc) s = .next t ∧
        t = Spec.refusal 0x20 .integrityError (.integrity (crc16 (Spec.body s s.par.flagAck src dst v [])) crc) {}
          { s with hid := t.hid }) ∧
    (crc ≠ crc16 (Spec.body s s.par.flagSync src dst v []) →
      ∃ t, exec (.frameSync src dst v crc) s = .next t ∧
        t = Spec.refusal 0x20 .integrityError (.integrity (crc16 (Spec.body s s.par.flagSync src dst v [])) crc) {}
          { s with hid := t.hid })

/-- Whatever an operation does, the sink changes only by one payload of the number its source was expected to send, and
that source's expectedSeq then advances by one; but for a Sync and the operations that configure or reset, nothing else
moves an expectedSeq (43 R223, R226). -/
def Obligations.DeliveryIsInSequenceOrder : Prop :=
  ∀ (i : Instr) (s t : State), exec i s = .next t →
    (t.sink = s.sink ∧
      (t.initSeq = s.initSeq → i ≠ .reset → i ≠ .cfgCommit →
        ∀ p, Spec.expectedSeq t p = Spec.expectedSeq s p ∨ ∃ r, t.resp = some r ∧ r.status = .okSync)) ∨
    (∃ src payload,
      t.sink = s.sink ++ [{ srcPeer := src, payload := payload }] ∧
      t.log = s.log ++ [Spec.acceptRecord src (Spec.expectedSeq s src)] ∧
      Spec.expectedSeq t src = (Spec.expectedSeq s src + 1) % (s.w + 1) ∧
      ∀ p, p ≠ src → Spec.expectedSeq t p = Spec.expectedSeq s p)

/-! ## The whole machine -/

/-- An operation that ends in an error has written nothing but its one LOG record and the hidden state; the one exception
is a failed CFG.COMMIT (60 R300, R305). -/
def Obligations.ErrorsWriteNothing : Prop :=
  ∀ (i : Instr) (s t : State) (r : Response), exec i s = .next t → t.resp = some r → isError r.status = true →
    r.status ≠ .configurationError →
    ∃ rec : LogRecord, rec.status = r.status ∧ r.line = s.line ∧ r.value = .none ∧
      t = { s with hid := t.hid, log := s.log ++ [rec], resp := some r }

/-- Each piece of state is written by the operations that own it and by no other (10 R20, R24; 60 R308); the model's
counter of free values moves only when a number above W is met, which no datagram brings (log 11). -/
def Obligations.StateIsWrittenByItsOwnersOnly : Prop :=
  ∀ (i : Instr) (s t : State), exec i s = .next t →
    t.par = s.par ∧ t.requests = s.requests ∧ t.line = s.line ∧
    (t.cfg ≠ s.cfg → (∃ r v, i = .cfgSet r v) ∨ i = .reset) ∧
    (t.ctl ≠ s.ctl → (∃ r v, i = .cfgSet r v) ∨ i = .cfgCommit ∨ i = .rxRun ∨ i = .rxStop ∨ i = .reset) ∧
    (t.tx ≠ s.tx →
      (∃ d, i = .txStart d) ∨ (∃ n, i = .txPoll n) ∨ (∃ a, i = .txSlide a) ∨ i = .txAbort ∨ i = .cfgCommit ∨ i = .reset) ∧
    (t.rxTab ≠ s.rxTab →
      Spec.takesDatagram i = true ∨ (∃ p q n d, i = .rxData p q n d) ∨ (∃ p q, i = .rxSync p q) ∨ i = .cfgCommit ∨
        i = .reset) ∧
    (t.ackTab ≠ s.ackTab →
      Spec.takesDatagram i = true ∨ (∃ p q a, i = .rxAck p q a) ∨ (∃ p a, i = .ackPost p a) ∨ i = .ackDrain ∨
        (∃ n, i = .txPoll n) ∨ (∃ d, i = .txStart d) ∨ i = .cfgCommit ∨ i = .reset) ∧
    (t.src ≠ s.src → (∃ d, i = .txStart d) ∨ (∃ n, i = .txPoll n) ∨ (∃ a, i = .txSlide a)) ∧
    (t.txf = s.txf ∨ ∃ e, t.txf = s.txf ++ [e] ∧
      ((∃ n, i = .txPoll n ∧ e.kind = .data ∧ e.impaired = true) ∨
        ((Spec.takesDatagram i = true ∨ ∃ p q n d, i = .rxData p q n d) ∧ e.kind = .ack ∧ e.impaired = true) ∨
        (∃ d, i = .syncSend d ∧ e.kind = .sync ∧ e.impaired = false))) ∧
    (t.free ≠ s.free →
      (∃ a, i = .txSlide a ∧ s.w < a) ∨ (∃ p a, i = .ackPost p a ∧ s.w < a) ∨ (∃ p q a, i = .rxAck p q a ∧ s.w < a) ∨
        (∃ n a, i = .txPoll n ∧ Spec.ackFor s = some a ∧ s.w < a))

/-- Every TX.POLL, every datagram and every SYNC.SEND writes exactly one LOG record, which carries the status returned;
for an operation whose peer is known beforehand (RX.DATA, RX.ACK, RX.SYNC and a TX.START that is refused too) the record
names that peer, and the record of a poll that sends names the sequence number and the slot status (60 R315, D32; 42
R200). A poll that runs leaves the ack table empty (42 R191). Which fields a record fills is log 16. -/
def Obligations.OneLogRecordPerDecision : Prop :=
  ∀ (i : Instr) (s t : State), exec i s = .next t →
    ((∃ n, i = .txPoll n) ∨ Spec.takesDatagram i = true ∨ (∃ d, i = .syncSend d) →
      ∃ rec r, t.log = s.log ++ [rec] ∧ t.resp = some r ∧ rec.status = r.status) ∧
    (∀ (p : PeerId) (recs : List LogRecord), Spec.peerOfDecision i s = some p → t.log = s.log ++ recs →
      ∀ rec ∈ recs, rec.subject.peer = some p) ∧
    ((∃ n, i = .txPoll n) → ∃ rec, t.log = s.log ++ [rec] ∧
      ∀ k st, rec.status = .pollSent → t.resp.map Response.value = some (.sent k st) →
        rec.subject.seq = some k ∧ rec.subject.slot = some st) ∧
    (Spec.mayPoll s → (∃ n, i = .txPoll n) → t.ackTab = [])

/-- Nothing stops the machine while the source keeps its contract, whatever the operands and the state: the block never
traps (60 R305). -/
def Obligations.NothingStopsWithinTheContracts : Prop :=
  ∀ (i : Instr) (s : State), srcKeepsContract s = true → ∃ t, exec i s = .next t

/-! ## Invariants -/

/-- The state after reset meets every invariant. -/
def Obligations.ResetMeetsEveryInvariant : Prop := Inv State.reset = true

/-- Every step keeps the slot file and both tables in canonical form. -/
def Obligations.StepKeepsCanonicalForm : Prop :=
  ∀ s t : State, canonical s = true → step s = .next t → canonical t = true

/-- Every step keeps the configuration legal while the core is configured, the flags consistent, and the roles
unconfigured cores do not have switched off (10 R28, R29; 44 R262, R263). -/
def Obligations.StepKeepsConfigurationLegal : Prop :=
  ∀ s t : State, configLegal s = true → step s = .next t → configLegal t = true

/-- Every step keeps the sender's indices in [0, W] and the slot at unusedPoint empty (10 R26, R27, R30, R32 (c)). -/
def Obligations.StepKeepsTheWindowInRange : Prop :=
  ∀ s t : State, canonical s = true → configLegal s = true → windowInRange s = true → step s = .next t →
    windowInRange t = true

/-- Every step keeps the numbers in both tables in [0, W] and the receiver table within MAX_PEERS (10 R35, R36). -/
def Obligations.StepKeepsTheTablesInRange : Prop :=
  ∀ s t : State, canonical s = true → configLegal s = true → tablesInRange s = true → step s = .next t →
    tablesInRange t = true

/-- Every step keeps the window full in FILL: exactly the W slots other than unusedPoint hold a frame (10 R33 (a)). -/
def Obligations.StepKeepsTheFillWindowFull : Prop :=
  ∀ s t : State, canonical s = true → configLegal s = true → windowInRange s = true → fillWindowFull s = true →
    step s = .next t → fillWindowFull t = true

/-- Every step keeps this: during a transfer a slot that holds a frame holds the encoded Data frame of its own number to
`dest` (10 R21, R22, R24; 20 R78). -/
def Obligations.StepKeepsSlotsHoldingTheirFrames : Prop :=
  ∀ s t : State, canonical s = true → configLegal s = true → windowInRange s = true → slotsHoldTheirFrames s = true →
    step s = .next t → slotsHoldTheirFrames t = true

/-- At most W slots hold a frame, in every state whose window is in range (10 R32 (b), 42 R206 (a)). -/
def Obligations.AtMostWSlotsHoldAFrame : Prop :=
  ∀ s : State, s.ctl.cfgValid = true → windowInRange s = true →
    ((List.range s.n).filter (fun i => (s.slot i).valid)).length ≤ s.w ∧ ∀ i, s.w < i → (s.slot i).valid = false
end

