-- ==== Sys2Proof/Laws/Bytes.lean ====
section
/-! SUPPORT. Big-endian byte strings: length, and that reading gives back what was written (00 R15, 20 R64). -/

namespace Sys2Proof

@[simp] theorem beBytes_length (n v : Nat) : (beBytes n v).length = n := by
  induction n with
  | zero => rfl
  | succ n ih => simp [beBytes, ih]

theorem unbe_append (s t : Bytes) : unbe (s ++ t) = unbe s * 256 ^ t.length + unbe t := by
  have shift : ∀ (t : Bytes) (a : Nat),
      t.foldl (fun acc b => acc * 256 + b.toNat) a = a * 256 ^ t.length + unbe t := by
    intro t
    induction t with
    | nil => intro a; simp [unbe]
    | cons b t ih =>
      intro a
      simp only [List.foldl_cons, List.length_cons, unbe]
      rw [ih, ih (0 * 256 + b.toNat), pow_succ]
      ring
  rw [unbe, List.foldl_append, shift]
  rfl

theorem unbe_cons (b : Byte) (t : Bytes) : unbe (b :: t) = b.toNat * 256 ^ t.length + unbe t := by
  have h := unbe_append [b] t
  simpa [unbe] using h

theorem unbe_beBytes_mod (n v : Nat) : unbe (beBytes n v) = v % 256 ^ n := by
  induction n with
  | zero => simp [beBytes, unbe, Nat.mod_one]
  | succ n ih =>
    rw [beBytes, unbe_cons, beBytes_length, ih, BitVec.toNat_ofNat, show (2 : Nat) ^ 8 = 256 from rfl,
      pow_succ 256 n, Nat.mod_mul, Nat.mul_comm, Nat.add_comm]

theorem unbe_beBytes {n v : Nat} (h : v < 256 ^ n) : unbe (beBytes n v) = v := by
  rw [unbe_beBytes_mod, Nat.mod_eq_of_lt h]

@[simp] theorem peerBytes_length (p : PeerId) : (peerBytes p).length = 6 := beBytes_length 6 _

@[simp] theorem peerOf_peerBytes (p : PeerId) : peerOf (peerBytes p) = p := by
  have h : p.toNat < 256 ^ 6 := p.isLt
  simp [peerOf, peerBytes, unbe_beBytes h]

@[simp] theorem frameBody_length (n : Nat) (f : Byte) (p q : PeerId) (v : Nat) (s : Bytes) :
    (frameBody n f p q v s).length = 13 + n + s.length := by
  simp only [frameBody, List.length_append, List.length_cons, List.length_nil, peerBytes_length, beBytes_length]

@[simp] theorem frameBytes_length (n : Nat) (f : Byte) (p q : PeerId) (v : Nat) (s : Bytes) (c : BitVec 16) :
    (frameBytes n f p q v s c).length = 15 + n + s.length := by
  simp only [frameBytes, List.length_append, frameBody_length, beBytes_length]
  omega

end Sys2Proof
end

