-- ==== Sys2Proof/Laws/State.lean ====
section
/-! SUPPORT. One lemma per field of State for every named update, true by rfl, and the derived values of two states that
share their configuration. -/

namespace Sys2Proof.Machine

@[simp] theorem respond_par (st : Status) (v : Value) (s : State) : (respond st v s).par = s.par := rfl
@[simp] theorem respond_cfg (st : Status) (v : Value) (s : State) : (respond st v s).cfg = s.cfg := rfl
@[simp] theorem respond_ctl (st : Status) (v : Value) (s : State) : (respond st v s).ctl = s.ctl := rfl
@[simp] theorem respond_tx (st : Status) (v : Value) (s : State) : (respond st v s).tx = s.tx := rfl
@[simp] theorem respond_rxTab (st : Status) (v : Value) (s : State) : (respond st v s).rxTab = s.rxTab := rfl
@[simp] theorem respond_ackTab (st : Status) (v : Value) (s : State) : (respond st v s).ackTab = s.ackTab := rfl
@[simp] theorem respond_hid (st : Status) (v : Value) (s : State) : (respond st v s).hid = s.hid := rfl
@[simp] theorem respond_requests (st : Status) (v : Value) (s : State) : (respond st v s).requests = s.requests := rfl
@[simp] theorem respond_line (st : Status) (v : Value) (s : State) : (respond st v s).line = s.line := rfl
@[simp] theorem respond_src (st : Status) (v : Value) (s : State) : (respond st v s).src = s.src := rfl
@[simp] theorem respond_txf (st : Status) (v : Value) (s : State) : (respond st v s).txf = s.txf := rfl
@[simp] theorem respond_sink (st : Status) (v : Value) (s : State) : (respond st v s).sink = s.sink := rfl
@[simp] theorem respond_log (st : Status) (v : Value) (s : State) : (respond st v s).log = s.log := rfl
@[simp] theorem respond_resp (st : Status) (v : Value) (s : State) : (respond st v s).resp = some { line := s.line, status := st, value := v } := rfl
@[simp] theorem respond_free (st : Status) (v : Value) (s : State) : (respond st v s).free = s.free := rfl

@[simp] theorem writeLog_par (op : Byte) (st : Status) (info : LogInfo) (sj : LogSubject) (s : State) : (writeLog op st info sj s).par = s.par := rfl
@[simp] theorem writeLog_cfg (op : Byte) (st : Status) (info : LogInfo) (sj : LogSubject) (s : State) : (writeLog op st info sj s).cfg = s.cfg := rfl
@[simp] theorem writeLog_ctl (op : Byte) (st : Status) (info : LogInfo) (sj : LogSubject) (s : State) : (writeLog op st info sj s).ctl = s.ctl := rfl
@[simp] theorem writeLog_tx (op : Byte) (st : Status) (info : LogInfo) (sj : LogSubject) (s : State) : (writeLog op st info sj s).tx = s.tx := rfl
@[simp] theorem writeLog_rxTab (op : Byte) (st : Status) (info : LogInfo) (sj : LogSubject) (s : State) : (writeLog op st info sj s).rxTab = s.rxTab := rfl
@[simp] theorem writeLog_ackTab (op : Byte) (st : Status) (info : LogInfo) (sj : LogSubject) (s : State) : (writeLog op st info sj s).ackTab = s.ackTab := rfl
@[simp] theorem writeLog_hid (op : Byte) (st : Status) (info : LogInfo) (sj : LogSubject) (s : State) : (writeLog op st info sj s).hid = s.hid := rfl
@[simp] theorem writeLog_requests (op : Byte) (st : Status) (info : LogInfo) (sj : LogSubject) (s : State) : (writeLog op st info sj s).requests = s.requests := rfl
@[simp] theorem writeLog_line (op : Byte) (st : Status) (info : LogInfo) (sj : LogSubject) (s : State) : (writeLog op st info sj s).line = s.line := rfl
@[simp] theorem writeLog_src (op : Byte) (st : Status) (info : LogInfo) (sj : LogSubject) (s : State) : (writeLog op st info sj s).src = s.src := rfl
@[simp] theorem writeLog_txf (op : Byte) (st : Status) (info : LogInfo) (sj : LogSubject) (s : State) : (writeLog op st info sj s).txf = s.txf := rfl
@[simp] theorem writeLog_sink (op : Byte) (st : Status) (info : LogInfo) (sj : LogSubject) (s : State) : (writeLog op st info sj s).sink = s.sink := rfl
@[simp] theorem writeLog_log (op : Byte) (st : Status) (info : LogInfo) (sj : LogSubject) (s : State) : (writeLog op st info sj s).log = s.log ++ [{ op := op, status := st, info := info, subject := sj }] := rfl
@[simp] theorem writeLog_resp (op : Byte) (st : Status) (info : LogInfo) (sj : LogSubject) (s : State) : (writeLog op st info sj s).resp = s.resp := rfl
@[simp] theorem writeLog_free (op : Byte) (st : Status) (info : LogInfo) (sj : LogSubject) (s : State) : (writeLog op st info sj s).free = s.free := rfl

@[simp] theorem emitFrame_par (d : Bytes) (k : FrameKind) (im : Bool) (s : State) : (emitFrame d k im s).par = s.par := rfl
@[simp] theorem emitFrame_cfg (d : Bytes) (k : FrameKind) (im : Bool) (s : State) : (emitFrame d k im s).cfg = s.cfg := rfl
@[simp] theorem emitFrame_ctl (d : Bytes) (k : FrameKind) (im : Bool) (s : State) : (emitFrame d k im s).ctl = s.ctl := rfl
@[simp] theorem emitFrame_tx (d : Bytes) (k : FrameKind) (im : Bool) (s : State) : (emitFrame d k im s).tx = s.tx := rfl
@[simp] theorem emitFrame_rxTab (d : Bytes) (k : FrameKind) (im : Bool) (s : State) : (emitFrame d k im s).rxTab = s.rxTab := rfl
@[simp] theorem emitFrame_ackTab (d : Bytes) (k : FrameKind) (im : Bool) (s : State) : (emitFrame d k im s).ackTab = s.ackTab := rfl
@[simp] theorem emitFrame_hid (d : Bytes) (k : FrameKind) (im : Bool) (s : State) : (emitFrame d k im s).hid = s.hid := rfl
@[simp] theorem emitFrame_requests (d : Bytes) (k : FrameKind) (im : Bool) (s : State) : (emitFrame d k im s).requests = s.requests := rfl
@[simp] theorem emitFrame_line (d : Bytes) (k : FrameKind) (im : Bool) (s : State) : (emitFrame d k im s).line = s.line := rfl
@[simp] theorem emitFrame_src (d : Bytes) (k : FrameKind) (im : Bool) (s : State) : (emitFrame d k im s).src = s.src := rfl
@[simp] theorem emitFrame_txf (d : Bytes) (k : FrameKind) (im : Bool) (s : State) : (emitFrame d k im s).txf = s.txf ++ [{ bytes := d, kind := k, impaired := im }] := rfl
@[simp] theorem emitFrame_sink (d : Bytes) (k : FrameKind) (im : Bool) (s : State) : (emitFrame d k im s).sink = s.sink := rfl
@[simp] theorem emitFrame_log (d : Bytes) (k : FrameKind) (im : Bool) (s : State) : (emitFrame d k im s).log = s.log := rfl
@[simp] theorem emitFrame_resp (d : Bytes) (k : FrameKind) (im : Bool) (s : State) : (emitFrame d k im s).resp = s.resp := rfl
@[simp] theorem emitFrame_free (d : Bytes) (k : FrameKind) (im : Bool) (s : State) : (emitFrame d k im s).free = s.free := rfl

@[simp] theorem deliver_par (p : PeerId) (c : Bytes) (s : State) : (deliver p c s).par = s.par := rfl
@[simp] theorem deliver_cfg (p : PeerId) (c : Bytes) (s : State) : (deliver p c s).cfg = s.cfg := rfl
@[simp] theorem deliver_ctl (p : PeerId) (c : Bytes) (s : State) : (deliver p c s).ctl = s.ctl := rfl
@[simp] theorem deliver_tx (p : PeerId) (c : Bytes) (s : State) : (deliver p c s).tx = s.tx := rfl
@[simp] theorem deliver_rxTab (p : PeerId) (c : Bytes) (s : State) : (deliver p c s).rxTab = s.rxTab := rfl
@[simp] theorem deliver_ackTab (p : PeerId) (c : Bytes) (s : State) : (deliver p c s).ackTab = s.ackTab := rfl
@[simp] theorem deliver_hid (p : PeerId) (c : Bytes) (s : State) : (deliver p c s).hid = s.hid := rfl
@[simp] theorem deliver_requests (p : PeerId) (c : Bytes) (s : State) : (deliver p c s).requests = s.requests := rfl
@[simp] theorem deliver_line (p : PeerId) (c : Bytes) (s : State) : (deliver p c s).line = s.line := rfl
@[simp] theorem deliver_src (p : PeerId) (c : Bytes) (s : State) : (deliver p c s).src = s.src := rfl
@[simp] theorem deliver_txf (p : PeerId) (c : Bytes) (s : State) : (deliver p c s).txf = s.txf := rfl
@[simp] theorem deliver_sink (p : PeerId) (c : Bytes) (s : State) : (deliver p c s).sink = s.sink ++ [{ srcPeer := p, payload := c }] := rfl
@[simp] theorem deliver_log (p : PeerId) (c : Bytes) (s : State) : (deliver p c s).log = s.log := rfl
@[simp] theorem deliver_resp (p : PeerId) (c : Bytes) (s : State) : (deliver p c s).resp = s.resp := rfl
@[simp] theorem deliver_free (p : PeerId) (c : Bytes) (s : State) : (deliver p c s).free = s.free := rfl

@[simp] theorem raise_par (op : Byte) (st : Status) (info : LogInfo) (sj : LogSubject) (s : State) : (raise op st info sj s).par = s.par := rfl
@[simp] theorem raise_cfg (op : Byte) (st : Status) (info : LogInfo) (sj : LogSubject) (s : State) : (raise op st info sj s).cfg = s.cfg := rfl
@[simp] theorem raise_ctl (op : Byte) (st : Status) (info : LogInfo) (sj : LogSubject) (s : State) : (raise op st info sj s).ctl = s.ctl := rfl
@[simp] theorem raise_tx (op : Byte) (st : Status) (info : LogInfo) (sj : LogSubject) (s : State) : (raise op st info sj s).tx = s.tx := rfl
@[simp] theorem raise_rxTab (op : Byte) (st : Status) (info : LogInfo) (sj : LogSubject) (s : State) : (raise op st info sj s).rxTab = s.rxTab := rfl
@[simp] theorem raise_ackTab (op : Byte) (st : Status) (info : LogInfo) (sj : LogSubject) (s : State) : (raise op st info sj s).ackTab = s.ackTab := rfl
@[simp] theorem raise_hid (op : Byte) (st : Status) (info : LogInfo) (sj : LogSubject) (s : State) : (raise op st info sj s).hid = s.hid := rfl
@[simp] theorem raise_requests (op : Byte) (st : Status) (info : LogInfo) (sj : LogSubject) (s : State) : (raise op st info sj s).requests = s.requests := rfl
@[simp] theorem raise_line (op : Byte) (st : Status) (info : LogInfo) (sj : LogSubject) (s : State) : (raise op st info sj s).line = s.line := rfl
@[simp] theorem raise_src (op : Byte) (st : Status) (info : LogInfo) (sj : LogSubject) (s : State) : (raise op st info sj s).src = s.src := rfl
@[simp] theorem raise_txf (op : Byte) (st : Status) (info : LogInfo) (sj : LogSubject) (s : State) : (raise op st info sj s).txf = s.txf := rfl
@[simp] theorem raise_sink (op : Byte) (st : Status) (info : LogInfo) (sj : LogSubject) (s : State) : (raise op st info sj s).sink = s.sink := rfl
@[simp] theorem raise_log (op : Byte) (st : Status) (info : LogInfo) (sj : LogSubject) (s : State) : (raise op st info sj s).log = s.log ++ [{ op := op, status := st, info := info, subject := sj }] := rfl
@[simp] theorem raise_resp (op : Byte) (st : Status) (info : LogInfo) (sj : LogSubject) (s : State) : (raise op st info sj s).resp = some { line := s.line, status := st, value := .none } := rfl
@[simp] theorem raise_free (op : Byte) (st : Status) (info : LogInfo) (sj : LogSubject) (s : State) : (raise op st info sj s).free = s.free := rfl

@[simp] theorem raiseState_par (op : Byte) (sj : LogSubject) (s : State) : (raiseState op sj s).par = s.par := rfl
@[simp] theorem raiseState_cfg (op : Byte) (sj : LogSubject) (s : State) : (raiseState op sj s).cfg = s.cfg := rfl
@[simp] theorem raiseState_ctl (op : Byte) (sj : LogSubject) (s : State) : (raiseState op sj s).ctl = s.ctl := rfl
@[simp] theorem raiseState_tx (op : Byte) (sj : LogSubject) (s : State) : (raiseState op sj s).tx = s.tx := rfl
@[simp] theorem raiseState_rxTab (op : Byte) (sj : LogSubject) (s : State) : (raiseState op sj s).rxTab = s.rxTab := rfl
@[simp] theorem raiseState_ackTab (op : Byte) (sj : LogSubject) (s : State) : (raiseState op sj s).ackTab = s.ackTab := rfl
@[simp] theorem raiseState_hid (op : Byte) (sj : LogSubject) (s : State) : (raiseState op sj s).hid = s.hid := rfl
@[simp] theorem raiseState_requests (op : Byte) (sj : LogSubject) (s : State) : (raiseState op sj s).requests = s.requests := rfl
@[simp] theorem raiseState_line (op : Byte) (sj : LogSubject) (s : State) : (raiseState op sj s).line = s.line := rfl
@[simp] theorem raiseState_src (op : Byte) (sj : LogSubject) (s : State) : (raiseState op sj s).src = s.src := rfl
@[simp] theorem raiseState_txf (op : Byte) (sj : LogSubject) (s : State) : (raiseState op sj s).txf = s.txf := rfl
@[simp] theorem raiseState_sink (op : Byte) (sj : LogSubject) (s : State) : (raiseState op sj s).sink = s.sink := rfl
@[simp] theorem raiseState_log (op : Byte) (sj : LogSubject) (s : State) : (raiseState op sj s).log = s.log ++ [{ op := op, status := .stateError, info := .command op, subject := sj }] := rfl
@[simp] theorem raiseState_resp (op : Byte) (sj : LogSubject) (s : State) : (raiseState op sj s).resp = some { line := s.line, status := .stateError, value := .none } := rfl
@[simp] theorem raiseState_free (op : Byte) (sj : LogSubject) (s : State) : (raiseState op sj s).free = s.free := rfl

@[simp] theorem setAcc_par (v : BitVec 16) (s : State) : (setAcc v s).par = s.par := rfl
@[simp] theorem setAcc_cfg (v : BitVec 16) (s : State) : (setAcc v s).cfg = s.cfg := rfl
@[simp] theorem setAcc_ctl (v : BitVec 16) (s : State) : (setAcc v s).ctl = s.ctl := rfl
@[simp] theorem setAcc_tx (v : BitVec 16) (s : State) : (setAcc v s).tx = s.tx := rfl
@[simp] theorem setAcc_rxTab (v : BitVec 16) (s : State) : (setAcc v s).rxTab = s.rxTab := rfl
@[simp] theorem setAcc_ackTab (v : BitVec 16) (s : State) : (setAcc v s).ackTab = s.ackTab := rfl
@[simp] theorem setAcc_hid (v : BitVec 16) (s : State) : (setAcc v s).hid = { s.hid with acc := v } := rfl
@[simp] theorem setAcc_requests (v : BitVec 16) (s : State) : (setAcc v s).requests = s.requests := rfl
@[simp] theorem setAcc_line (v : BitVec 16) (s : State) : (setAcc v s).line = s.line := rfl
@[simp] theorem setAcc_src (v : BitVec 16) (s : State) : (setAcc v s).src = s.src := rfl
@[simp] theorem setAcc_txf (v : BitVec 16) (s : State) : (setAcc v s).txf = s.txf := rfl
@[simp] theorem setAcc_sink (v : BitVec 16) (s : State) : (setAcc v s).sink = s.sink := rfl
@[simp] theorem setAcc_log (v : BitVec 16) (s : State) : (setAcc v s).log = s.log := rfl
@[simp] theorem setAcc_resp (v : BitVec 16) (s : State) : (setAcc v s).resp = s.resp := rfl
@[simp] theorem setAcc_free (v : BitVec 16) (s : State) : (setAcc v s).free = s.free := rfl

@[simp] theorem setTxbuf_par (f : Bytes) (s : State) : (setTxbuf f s).par = s.par := rfl
@[simp] theorem setTxbuf_cfg (f : Bytes) (s : State) : (setTxbuf f s).cfg = s.cfg := rfl
@[simp] theorem setTxbuf_ctl (f : Bytes) (s : State) : (setTxbuf f s).ctl = s.ctl := rfl
@[simp] theorem setTxbuf_tx (f : Bytes) (s : State) : (setTxbuf f s).tx = s.tx := rfl
@[simp] theorem setTxbuf_rxTab (f : Bytes) (s : State) : (setTxbuf f s).rxTab = s.rxTab := rfl
@[simp] theorem setTxbuf_ackTab (f : Bytes) (s : State) : (setTxbuf f s).ackTab = s.ackTab := rfl
@[simp] theorem setTxbuf_hid (f : Bytes) (s : State) : (setTxbuf f s).hid = { s.hid with txbuf := f } := rfl
@[simp] theorem setTxbuf_requests (f : Bytes) (s : State) : (setTxbuf f s).requests = s.requests := rfl
@[simp] theorem setTxbuf_line (f : Bytes) (s : State) : (setTxbuf f s).line = s.line := rfl
@[simp] theorem setTxbuf_src (f : Bytes) (s : State) : (setTxbuf f s).src = s.src := rfl
@[simp] theorem setTxbuf_txf (f : Bytes) (s : State) : (setTxbuf f s).txf = s.txf := rfl
@[simp] theorem setTxbuf_sink (f : Bytes) (s : State) : (setTxbuf f s).sink = s.sink := rfl
@[simp] theorem setTxbuf_log (f : Bytes) (s : State) : (setTxbuf f s).log = s.log := rfl
@[simp] theorem setTxbuf_resp (f : Bytes) (s : State) : (setTxbuf f s).resp = s.resp := rfl
@[simp] theorem setTxbuf_free (f : Bytes) (s : State) : (setTxbuf f s).free = s.free := rfl

@[simp] theorem loadRxbuf_par (d : Bytes) (s : State) : (loadRxbuf d s).par = s.par := rfl
@[simp] theorem loadRxbuf_cfg (d : Bytes) (s : State) : (loadRxbuf d s).cfg = s.cfg := rfl
@[simp] theorem loadRxbuf_ctl (d : Bytes) (s : State) : (loadRxbuf d s).ctl = s.ctl := rfl
@[simp] theorem loadRxbuf_tx (d : Bytes) (s : State) : (loadRxbuf d s).tx = s.tx := rfl
@[simp] theorem loadRxbuf_rxTab (d : Bytes) (s : State) : (loadRxbuf d s).rxTab = s.rxTab := rfl
@[simp] theorem loadRxbuf_ackTab (d : Bytes) (s : State) : (loadRxbuf d s).ackTab = s.ackTab := rfl
@[simp] theorem loadRxbuf_hid (d : Bytes) (s : State) : (loadRxbuf d s).hid = { s.hid with rxbuf := d.take s.maxf, rxlen := d.length } := rfl
@[simp] theorem loadRxbuf_requests (d : Bytes) (s : State) : (loadRxbuf d s).requests = s.requests := rfl
@[simp] theorem loadRxbuf_line (d : Bytes) (s : State) : (loadRxbuf d s).line = s.line := rfl
@[simp] theorem loadRxbuf_src (d : Bytes) (s : State) : (loadRxbuf d s).src = s.src := rfl
@[simp] theorem loadRxbuf_txf (d : Bytes) (s : State) : (loadRxbuf d s).txf = s.txf := rfl
@[simp] theorem loadRxbuf_sink (d : Bytes) (s : State) : (loadRxbuf d s).sink = s.sink := rfl
@[simp] theorem loadRxbuf_log (d : Bytes) (s : State) : (loadRxbuf d s).log = s.log := rfl
@[simp] theorem loadRxbuf_resp (d : Bytes) (s : State) : (loadRxbuf d s).resp = s.resp := rfl
@[simp] theorem loadRxbuf_free (d : Bytes) (s : State) : (loadRxbuf d s).free = s.free := rfl

@[simp] theorem stageFrame_par (fl : Byte) (p q : PeerId) (v : Nat) (pl : Bytes) (s : State) : (stageFrame fl p q v pl s).par = s.par := rfl
@[simp] theorem stageFrame_cfg (fl : Byte) (p q : PeerId) (v : Nat) (pl : Bytes) (s : State) : (stageFrame fl p q v pl s).cfg = s.cfg := rfl
@[simp] theorem stageFrame_ctl (fl : Byte) (p q : PeerId) (v : Nat) (pl : Bytes) (s : State) : (stageFrame fl p q v pl s).ctl = s.ctl := rfl
@[simp] theorem stageFrame_tx (fl : Byte) (p q : PeerId) (v : Nat) (pl : Bytes) (s : State) : (stageFrame fl p q v pl s).tx = s.tx := rfl
@[simp] theorem stageFrame_rxTab (fl : Byte) (p q : PeerId) (v : Nat) (pl : Bytes) (s : State) : (stageFrame fl p q v pl s).rxTab = s.rxTab := rfl
@[simp] theorem stageFrame_ackTab (fl : Byte) (p q : PeerId) (v : Nat) (pl : Bytes) (s : State) : (stageFrame fl p q v pl s).ackTab = s.ackTab := rfl
@[simp] theorem stageFrame_hid (fl : Byte) (p q : PeerId) (v : Nat) (pl : Bytes) (s : State) : (stageFrame fl p q v pl s).hid = { s.hid with acc := crc16 (buildBody fl p q v pl s), txbuf := buildFrame fl p q v pl s } := by
  simp only [stageFrame, setTxbuf_hid, setAcc_hid]
@[simp] theorem stageFrame_requests (fl : Byte) (p q : PeerId) (v : Nat) (pl : Bytes) (s : State) : (stageFrame fl p q v pl s).requests = s.requests := rfl
@[simp] theorem stageFrame_line (fl : Byte) (p q : PeerId) (v : Nat) (pl : Bytes) (s : State) : (stageFrame fl p q v pl s).line = s.line := rfl
@[simp] theorem stageFrame_src (fl : Byte) (p q : PeerId) (v : Nat) (pl : Bytes) (s : State) : (stageFrame fl p q v pl s).src = s.src := rfl
@[simp] theorem stageFrame_txf (fl : Byte) (p q : PeerId) (v : Nat) (pl : Bytes) (s : State) : (stageFrame fl p q v pl s).txf = s.txf := rfl
@[simp] theorem stageFrame_sink (fl : Byte) (p q : PeerId) (v : Nat) (pl : Bytes) (s : State) : (stageFrame fl p q v pl s).sink = s.sink := rfl
@[simp] theorem stageFrame_log (fl : Byte) (p q : PeerId) (v : Nat) (pl : Bytes) (s : State) : (stageFrame fl p q v pl s).log = s.log := rfl
@[simp] theorem stageFrame_resp (fl : Byte) (p q : PeerId) (v : Nat) (pl : Bytes) (s : State) : (stageFrame fl p q v pl s).resp = s.resp := rfl
@[simp] theorem stageFrame_free (fl : Byte) (p q : PeerId) (v : Nat) (pl : Bytes) (s : State) : (stageFrame fl p q v pl s).free = s.free := rfl

@[simp] theorem takeRequest_par (r : Presented) (rest : List Presented) (s : State) : (takeRequest r rest s).par = s.par := rfl
@[simp] theorem takeRequest_cfg (r : Presented) (rest : List Presented) (s : State) : (takeRequest r rest s).cfg = s.cfg := rfl
@[simp] theorem takeRequest_ctl (r : Presented) (rest : List Presented) (s : State) : (takeRequest r rest s).ctl = s.ctl := rfl
@[simp] theorem takeRequest_tx (r : Presented) (rest : List Presented) (s : State) : (takeRequest r rest s).tx = s.tx := rfl
@[simp] theorem takeRequest_rxTab (r : Presented) (rest : List Presented) (s : State) : (takeRequest r rest s).rxTab = s.rxTab := rfl
@[simp] theorem takeRequest_ackTab (r : Presented) (rest : List Presented) (s : State) : (takeRequest r rest s).ackTab = s.ackTab := rfl
@[simp] theorem takeRequest_hid (r : Presented) (rest : List Presented) (s : State) : (takeRequest r rest s).hid = s.hid := rfl
@[simp] theorem takeRequest_requests (r : Presented) (rest : List Presented) (s : State) : (takeRequest r rest s).requests = rest := rfl
@[simp] theorem takeRequest_line (r : Presented) (rest : List Presented) (s : State) : (takeRequest r rest s).line = r.line := rfl
@[simp] theorem takeRequest_src (r : Presented) (rest : List Presented) (s : State) : (takeRequest r rest s).src = s.src := rfl
@[simp] theorem takeRequest_txf (r : Presented) (rest : List Presented) (s : State) : (takeRequest r rest s).txf = s.txf := rfl
@[simp] theorem takeRequest_sink (r : Presented) (rest : List Presented) (s : State) : (takeRequest r rest s).sink = s.sink := rfl
@[simp] theorem takeRequest_log (r : Presented) (rest : List Presented) (s : State) : (takeRequest r rest s).log = s.log := rfl
@[simp] theorem takeRequest_resp (r : Presented) (rest : List Presented) (s : State) : (takeRequest r rest s).resp = s.resp := rfl
@[simp] theorem takeRequest_free (r : Presented) (rest : List Presented) (s : State) : (takeRequest r rest s).free = s.free := rfl

@[simp] theorem markExhausted_par (i : Nat) (s : State) : (markExhausted i s).par = s.par := rfl
@[simp] theorem markExhausted_cfg (i : Nat) (s : State) : (markExhausted i s).cfg = s.cfg := rfl
@[simp] theorem markExhausted_ctl (i : Nat) (s : State) : (markExhausted i s).ctl = s.ctl := rfl
@[simp] theorem markExhausted_tx (i : Nat) (s : State) : (markExhausted i s).tx = { s.tx with exhausted := true, eosValid := true, eos := i } := rfl
@[simp] theorem markExhausted_rxTab (i : Nat) (s : State) : (markExhausted i s).rxTab = s.rxTab := rfl
@[simp] theorem markExhausted_ackTab (i : Nat) (s : State) : (markExhausted i s).ackTab = s.ackTab := rfl
@[simp] theorem markExhausted_hid (i : Nat) (s : State) : (markExhausted i s).hid = s.hid := rfl
@[simp] theorem markExhausted_requests (i : Nat) (s : State) : (markExhausted i s).requests = s.requests := rfl
@[simp] theorem markExhausted_line (i : Nat) (s : State) : (markExhausted i s).line = s.line := rfl
@[simp] theorem markExhausted_src (i : Nat) (s : State) : (markExhausted i s).src = s.src := rfl
@[simp] theorem markExhausted_txf (i : Nat) (s : State) : (markExhausted i s).txf = s.txf := rfl
@[simp] theorem markExhausted_sink (i : Nat) (s : State) : (markExhausted i s).sink = s.sink := rfl
@[simp] theorem markExhausted_log (i : Nat) (s : State) : (markExhausted i s).log = s.log := rfl
@[simp] theorem markExhausted_resp (i : Nat) (s : State) : (markExhausted i s).resp = s.resp := rfl
@[simp] theorem markExhausted_free (i : Nat) (s : State) : (markExhausted i s).free = s.free := rfl

@[simp] theorem clearTxFlags_par (s : State) : (clearTxFlags s).par = s.par := rfl
@[simp] theorem clearTxFlags_cfg (s : State) : (clearTxFlags s).cfg = s.cfg := rfl
@[simp] theorem clearTxFlags_ctl (s : State) : (clearTxFlags s).ctl = s.ctl := rfl
@[simp] theorem clearTxFlags_tx (s : State) : (clearTxFlags s).tx = { s.tx with exhausted := false, eosValid := false, eos := 0, aborted := false } := rfl
@[simp] theorem clearTxFlags_rxTab (s : State) : (clearTxFlags s).rxTab = s.rxTab := rfl
@[simp] theorem clearTxFlags_ackTab (s : State) : (clearTxFlags s).ackTab = s.ackTab := rfl
@[simp] theorem clearTxFlags_hid (s : State) : (clearTxFlags s).hid = s.hid := rfl
@[simp] theorem clearTxFlags_requests (s : State) : (clearTxFlags s).requests = s.requests := rfl
@[simp] theorem clearTxFlags_line (s : State) : (clearTxFlags s).line = s.line := rfl
@[simp] theorem clearTxFlags_src (s : State) : (clearTxFlags s).src = s.src := rfl
@[simp] theorem clearTxFlags_txf (s : State) : (clearTxFlags s).txf = s.txf := rfl
@[simp] theorem clearTxFlags_sink (s : State) : (clearTxFlags s).sink = s.sink := rfl
@[simp] theorem clearTxFlags_log (s : State) : (clearTxFlags s).log = s.log := rfl
@[simp] theorem clearTxFlags_resp (s : State) : (clearTxFlags s).resp = s.resp := rfl
@[simp] theorem clearTxFlags_free (s : State) : (clearTxFlags s).free = s.free := rfl

@[simp] theorem setAborted_par (s : State) : (setAborted s).par = s.par := rfl
@[simp] theorem setAborted_cfg (s : State) : (setAborted s).cfg = s.cfg := rfl
@[simp] theorem setAborted_ctl (s : State) : (setAborted s).ctl = s.ctl := rfl
@[simp] theorem setAborted_tx (s : State) : (setAborted s).tx = { s.tx with aborted := true } := rfl
@[simp] theorem setAborted_rxTab (s : State) : (setAborted s).rxTab = s.rxTab := rfl
@[simp] theorem setAborted_ackTab (s : State) : (setAborted s).ackTab = s.ackTab := rfl
@[simp] theorem setAborted_hid (s : State) : (setAborted s).hid = s.hid := rfl
@[simp] theorem setAborted_requests (s : State) : (setAborted s).requests = s.requests := rfl
@[simp] theorem setAborted_line (s : State) : (setAborted s).line = s.line := rfl
@[simp] theorem setAborted_src (s : State) : (setAborted s).src = s.src := rfl
@[simp] theorem setAborted_txf (s : State) : (setAborted s).txf = s.txf := rfl
@[simp] theorem setAborted_sink (s : State) : (setAborted s).sink = s.sink := rfl
@[simp] theorem setAborted_log (s : State) : (setAborted s).log = s.log := rfl
@[simp] theorem setAborted_resp (s : State) : (setAborted s).resp = s.resp := rfl
@[simp] theorem setAborted_free (s : State) : (setAborted s).free = s.free := rfl

@[simp] theorem setRxEn_par (b : Bool) (s : State) : (setRxEn b s).par = s.par := rfl
@[simp] theorem setRxEn_cfg (b : Bool) (s : State) : (setRxEn b s).cfg = s.cfg := rfl
@[simp] theorem setRxEn_ctl (b : Bool) (s : State) : (setRxEn b s).ctl = { s.ctl with rxEn := b } := rfl
@[simp] theorem setRxEn_tx (b : Bool) (s : State) : (setRxEn b s).tx = s.tx := rfl
@[simp] theorem setRxEn_rxTab (b : Bool) (s : State) : (setRxEn b s).rxTab = s.rxTab := rfl
@[simp] theorem setRxEn_ackTab (b : Bool) (s : State) : (setRxEn b s).ackTab = s.ackTab := rfl
@[simp] theorem setRxEn_hid (b : Bool) (s : State) : (setRxEn b s).hid = s.hid := rfl
@[simp] theorem setRxEn_requests (b : Bool) (s : State) : (setRxEn b s).requests = s.requests := rfl
@[simp] theorem setRxEn_line (b : Bool) (s : State) : (setRxEn b s).line = s.line := rfl
@[simp] theorem setRxEn_src (b : Bool) (s : State) : (setRxEn b s).src = s.src := rfl
@[simp] theorem setRxEn_txf (b : Bool) (s : State) : (setRxEn b s).txf = s.txf := rfl
@[simp] theorem setRxEn_sink (b : Bool) (s : State) : (setRxEn b s).sink = s.sink := rfl
@[simp] theorem setRxEn_log (b : Bool) (s : State) : (setRxEn b s).log = s.log := rfl
@[simp] theorem setRxEn_resp (b : Bool) (s : State) : (setRxEn b s).resp = s.resp := rfl
@[simp] theorem setRxEn_free (b : Bool) (s : State) : (setRxEn b s).free = s.free := rfl

@[simp] theorem setCfgValid_par (b : Bool) (s : State) : (setCfgValid b s).par = s.par := rfl
@[simp] theorem setCfgValid_cfg (b : Bool) (s : State) : (setCfgValid b s).cfg = s.cfg := rfl
@[simp] theorem setCfgValid_ctl (b : Bool) (s : State) : (setCfgValid b s).ctl = { s.ctl with cfgValid := b } := rfl
@[simp] theorem setCfgValid_tx (b : Bool) (s : State) : (setCfgValid b s).tx = s.tx := rfl
@[simp] theorem setCfgValid_rxTab (b : Bool) (s : State) : (setCfgValid b s).rxTab = s.rxTab := rfl
@[simp] theorem setCfgValid_ackTab (b : Bool) (s : State) : (setCfgValid b s).ackTab = s.ackTab := rfl
@[simp] theorem setCfgValid_hid (b : Bool) (s : State) : (setCfgValid b s).hid = s.hid := rfl
@[simp] theorem setCfgValid_requests (b : Bool) (s : State) : (setCfgValid b s).requests = s.requests := rfl
@[simp] theorem setCfgValid_line (b : Bool) (s : State) : (setCfgValid b s).line = s.line := rfl
@[simp] theorem setCfgValid_src (b : Bool) (s : State) : (setCfgValid b s).src = s.src := rfl
@[simp] theorem setCfgValid_txf (b : Bool) (s : State) : (setCfgValid b s).txf = s.txf := rfl
@[simp] theorem setCfgValid_sink (b : Bool) (s : State) : (setCfgValid b s).sink = s.sink := rfl
@[simp] theorem setCfgValid_log (b : Bool) (s : State) : (setCfgValid b s).log = s.log := rfl
@[simp] theorem setCfgValid_resp (b : Bool) (s : State) : (setCfgValid b s).resp = s.resp := rfl
@[simp] theorem setCfgValid_free (b : Bool) (s : State) : (setCfgValid b s).free = s.free := rfl

@[simp] theorem setDerived_par (m : BitVec 32) (b : BitVec 8) (s : State) : (setDerived m b s).par = s.par := rfl
@[simp] theorem setDerived_cfg (m : BitVec 32) (b : BitVec 8) (s : State) : (setDerived m b s).cfg = s.cfg := rfl
@[simp] theorem setDerived_ctl (m : BitVec 32) (b : BitVec 8) (s : State) : (setDerived m b s).ctl = { s.ctl with seqMod := m, seqBytes := b } := rfl
@[simp] theorem setDerived_tx (m : BitVec 32) (b : BitVec 8) (s : State) : (setDerived m b s).tx = s.tx := rfl
@[simp] theorem setDerived_rxTab (m : BitVec 32) (b : BitVec 8) (s : State) : (setDerived m b s).rxTab = s.rxTab := rfl
@[simp] theorem setDerived_ackTab (m : BitVec 32) (b : BitVec 8) (s : State) : (setDerived m b s).ackTab = s.ackTab := rfl
@[simp] theorem setDerived_hid (m : BitVec 32) (b : BitVec 8) (s : State) : (setDerived m b s).hid = s.hid := rfl
@[simp] theorem setDerived_requests (m : BitVec 32) (b : BitVec 8) (s : State) : (setDerived m b s).requests = s.requests := rfl
@[simp] theorem setDerived_line (m : BitVec 32) (b : BitVec 8) (s : State) : (setDerived m b s).line = s.line := rfl
@[simp] theorem setDerived_src (m : BitVec 32) (b : BitVec 8) (s : State) : (setDerived m b s).src = s.src := rfl
@[simp] theorem setDerived_txf (m : BitVec 32) (b : BitVec 8) (s : State) : (setDerived m b s).txf = s.txf := rfl
@[simp] theorem setDerived_sink (m : BitVec 32) (b : BitVec 8) (s : State) : (setDerived m b s).sink = s.sink := rfl
@[simp] theorem setDerived_log (m : BitVec 32) (b : BitVec 8) (s : State) : (setDerived m b s).log = s.log := rfl
@[simp] theorem setDerived_resp (m : BitVec 32) (b : BitVec 8) (s : State) : (setDerived m b s).resp = s.resp := rfl
@[simp] theorem setDerived_free (m : BitVec 32) (b : BitVec 8) (s : State) : (setDerived m b s).free = s.free := rfl

@[simp] theorem setSlot_par (i : Nat) (v : Slot) (s : State) : (setSlot i v s).par = s.par := rfl
@[simp] theorem setSlot_cfg (i : Nat) (v : Slot) (s : State) : (setSlot i v s).cfg = s.cfg := rfl
@[simp] theorem setSlot_ctl (i : Nat) (v : Slot) (s : State) : (setSlot i v s).ctl = s.ctl := rfl
@[simp] theorem setSlot_tx (i : Nat) (v : Slot) (s : State) : (setSlot i v s).tx = { s.tx with slots := slotWrite s.tx.slots i v } := rfl
@[simp] theorem setSlot_rxTab (i : Nat) (v : Slot) (s : State) : (setSlot i v s).rxTab = s.rxTab := rfl
@[simp] theorem setSlot_ackTab (i : Nat) (v : Slot) (s : State) : (setSlot i v s).ackTab = s.ackTab := rfl
@[simp] theorem setSlot_hid (i : Nat) (v : Slot) (s : State) : (setSlot i v s).hid = s.hid := rfl
@[simp] theorem setSlot_requests (i : Nat) (v : Slot) (s : State) : (setSlot i v s).requests = s.requests := rfl
@[simp] theorem setSlot_line (i : Nat) (v : Slot) (s : State) : (setSlot i v s).line = s.line := rfl
@[simp] theorem setSlot_src (i : Nat) (v : Slot) (s : State) : (setSlot i v s).src = s.src := rfl
@[simp] theorem setSlot_txf (i : Nat) (v : Slot) (s : State) : (setSlot i v s).txf = s.txf := rfl
@[simp] theorem setSlot_sink (i : Nat) (v : Slot) (s : State) : (setSlot i v s).sink = s.sink := rfl
@[simp] theorem setSlot_log (i : Nat) (v : Slot) (s : State) : (setSlot i v s).log = s.log := rfl
@[simp] theorem setSlot_resp (i : Nat) (v : Slot) (s : State) : (setSlot i v s).resp = s.resp := rfl
@[simp] theorem setSlot_free (i : Nat) (v : Slot) (s : State) : (setSlot i v s).free = s.free := rfl

@[simp] theorem unstampSlot_par (i : Nat) (s : State) : (unstampSlot i s).par = s.par := rfl
@[simp] theorem unstampSlot_cfg (i : Nat) (s : State) : (unstampSlot i s).cfg = s.cfg := rfl
@[simp] theorem unstampSlot_ctl (i : Nat) (s : State) : (unstampSlot i s).ctl = s.ctl := rfl
@[simp] theorem unstampSlot_tx (i : Nat) (s : State) : (unstampSlot i s).tx = { s.tx with slots := slotWrite s.tx.slots i { s.slot i with stamped := false } } := rfl
@[simp] theorem unstampSlot_rxTab (i : Nat) (s : State) : (unstampSlot i s).rxTab = s.rxTab := rfl
@[simp] theorem unstampSlot_ackTab (i : Nat) (s : State) : (unstampSlot i s).ackTab = s.ackTab := rfl
@[simp] theorem unstampSlot_hid (i : Nat) (s : State) : (unstampSlot i s).hid = s.hid := rfl
@[simp] theorem unstampSlot_requests (i : Nat) (s : State) : (unstampSlot i s).requests = s.requests := rfl
@[simp] theorem unstampSlot_line (i : Nat) (s : State) : (unstampSlot i s).line = s.line := rfl
@[simp] theorem unstampSlot_src (i : Nat) (s : State) : (unstampSlot i s).src = s.src := rfl
@[simp] theorem unstampSlot_txf (i : Nat) (s : State) : (unstampSlot i s).txf = s.txf := rfl
@[simp] theorem unstampSlot_sink (i : Nat) (s : State) : (unstampSlot i s).sink = s.sink := rfl
@[simp] theorem unstampSlot_log (i : Nat) (s : State) : (unstampSlot i s).log = s.log := rfl
@[simp] theorem unstampSlot_resp (i : Nat) (s : State) : (unstampSlot i s).resp = s.resp := rfl
@[simp] theorem unstampSlot_free (i : Nat) (s : State) : (unstampSlot i s).free = s.free := rfl

@[simp] theorem releaseWindow_par (s : State) : (releaseWindow s).par = s.par := rfl
@[simp] theorem releaseWindow_cfg (s : State) : (releaseWindow s).cfg = s.cfg := rfl
@[simp] theorem releaseWindow_ctl (s : State) : (releaseWindow s).ctl = s.ctl := rfl
@[simp] theorem releaseWindow_tx (s : State) : (releaseWindow s).tx = { s.tx with slots := slotsEmptyTo s.w s.tx.slots } := rfl
@[simp] theorem releaseWindow_rxTab (s : State) : (releaseWindow s).rxTab = s.rxTab := rfl
@[simp] theorem releaseWindow_ackTab (s : State) : (releaseWindow s).ackTab = s.ackTab := rfl
@[simp] theorem releaseWindow_hid (s : State) : (releaseWindow s).hid = s.hid := rfl
@[simp] theorem releaseWindow_requests (s : State) : (releaseWindow s).requests = s.requests := rfl
@[simp] theorem releaseWindow_line (s : State) : (releaseWindow s).line = s.line := rfl
@[simp] theorem releaseWindow_src (s : State) : (releaseWindow s).src = s.src := rfl
@[simp] theorem releaseWindow_txf (s : State) : (releaseWindow s).txf = s.txf := rfl
@[simp] theorem releaseWindow_sink (s : State) : (releaseWindow s).sink = s.sink := rfl
@[simp] theorem releaseWindow_log (s : State) : (releaseWindow s).log = s.log := rfl
@[simp] theorem releaseWindow_resp (s : State) : (releaseWindow s).resp = s.resp := rfl
@[simp] theorem releaseWindow_free (s : State) : (releaseWindow s).free = s.free := rfl

@[simp] theorem freeSlots_par (js : List Nat) (s : State) : (freeSlots js s).par = s.par := rfl
@[simp] theorem freeSlots_cfg (js : List Nat) (s : State) : (freeSlots js s).cfg = s.cfg := rfl
@[simp] theorem freeSlots_ctl (js : List Nat) (s : State) : (freeSlots js s).ctl = s.ctl := rfl
@[simp] theorem freeSlots_tx (js : List Nat) (s : State) : (freeSlots js s).tx = { s.tx with slots := js.foldl slotEmpty s.tx.slots } := rfl
@[simp] theorem freeSlots_rxTab (js : List Nat) (s : State) : (freeSlots js s).rxTab = s.rxTab := rfl
@[simp] theorem freeSlots_ackTab (js : List Nat) (s : State) : (freeSlots js s).ackTab = s.ackTab := rfl
@[simp] theorem freeSlots_hid (js : List Nat) (s : State) : (freeSlots js s).hid = s.hid := rfl
@[simp] theorem freeSlots_requests (js : List Nat) (s : State) : (freeSlots js s).requests = s.requests := rfl
@[simp] theorem freeSlots_line (js : List Nat) (s : State) : (freeSlots js s).line = s.line := rfl
@[simp] theorem freeSlots_src (js : List Nat) (s : State) : (freeSlots js s).src = s.src := rfl
@[simp] theorem freeSlots_txf (js : List Nat) (s : State) : (freeSlots js s).txf = s.txf := rfl
@[simp] theorem freeSlots_sink (js : List Nat) (s : State) : (freeSlots js s).sink = s.sink := rfl
@[simp] theorem freeSlots_log (js : List Nat) (s : State) : (freeSlots js s).log = s.log := rfl
@[simp] theorem freeSlots_resp (js : List Nat) (s : State) : (freeSlots js s).resp = s.resp := rfl
@[simp] theorem freeSlots_free (js : List Nat) (s : State) : (freeSlots js s).free = s.free := rfl

@[simp] theorem setCursor_par (c : Nat) (s : State) : (setCursor c s).par = s.par := rfl
@[simp] theorem setCursor_cfg (c : Nat) (s : State) : (setCursor c s).cfg = s.cfg := rfl
@[simp] theorem setCursor_ctl (c : Nat) (s : State) : (setCursor c s).ctl = s.ctl := rfl
@[simp] theorem setCursor_tx (c : Nat) (s : State) : (setCursor c s).tx = { s.tx with cursor := c } := rfl
@[simp] theorem setCursor_rxTab (c : Nat) (s : State) : (setCursor c s).rxTab = s.rxTab := rfl
@[simp] theorem setCursor_ackTab (c : Nat) (s : State) : (setCursor c s).ackTab = s.ackTab := rfl
@[simp] theorem setCursor_hid (c : Nat) (s : State) : (setCursor c s).hid = s.hid := rfl
@[simp] theorem setCursor_requests (c : Nat) (s : State) : (setCursor c s).requests = s.requests := rfl
@[simp] theorem setCursor_line (c : Nat) (s : State) : (setCursor c s).line = s.line := rfl
@[simp] theorem setCursor_src (c : Nat) (s : State) : (setCursor c s).src = s.src := rfl
@[simp] theorem setCursor_txf (c : Nat) (s : State) : (setCursor c s).txf = s.txf := rfl
@[simp] theorem setCursor_sink (c : Nat) (s : State) : (setCursor c s).sink = s.sink := rfl
@[simp] theorem setCursor_log (c : Nat) (s : State) : (setCursor c s).log = s.log := rfl
@[simp] theorem setCursor_resp (c : Nat) (s : State) : (setCursor c s).resp = s.resp := rfl
@[simp] theorem setCursor_free (c : Nat) (s : State) : (setCursor c s).free = s.free := rfl

@[simp] theorem setTxState_par (x : TxState) (s : State) : (setTxState x s).par = s.par := rfl
@[simp] theorem setTxState_cfg (x : TxState) (s : State) : (setTxState x s).cfg = s.cfg := rfl
@[simp] theorem setTxState_ctl (x : TxState) (s : State) : (setTxState x s).ctl = s.ctl := rfl
@[simp] theorem setTxState_tx (x : TxState) (s : State) : (setTxState x s).tx = { s.tx with txState := x } := rfl
@[simp] theorem setTxState_rxTab (x : TxState) (s : State) : (setTxState x s).rxTab = s.rxTab := rfl
@[simp] theorem setTxState_ackTab (x : TxState) (s : State) : (setTxState x s).ackTab = s.ackTab := rfl
@[simp] theorem setTxState_hid (x : TxState) (s : State) : (setTxState x s).hid = s.hid := rfl
@[simp] theorem setTxState_requests (x : TxState) (s : State) : (setTxState x s).requests = s.requests := rfl
@[simp] theorem setTxState_line (x : TxState) (s : State) : (setTxState x s).line = s.line := rfl
@[simp] theorem setTxState_src (x : TxState) (s : State) : (setTxState x s).src = s.src := rfl
@[simp] theorem setTxState_txf (x : TxState) (s : State) : (setTxState x s).txf = s.txf := rfl
@[simp] theorem setTxState_sink (x : TxState) (s : State) : (setTxState x s).sink = s.sink := rfl
@[simp] theorem setTxState_log (x : TxState) (s : State) : (setTxState x s).log = s.log := rfl
@[simp] theorem setTxState_resp (x : TxState) (s : State) : (setTxState x s).resp = s.resp := rfl
@[simp] theorem setTxState_free (x : TxState) (s : State) : (setTxState x s).free = s.free := rfl

@[simp] theorem drainAcks_par (s : State) : (drainAcks s).par = s.par := rfl
@[simp] theorem drainAcks_cfg (s : State) : (drainAcks s).cfg = s.cfg := rfl
@[simp] theorem drainAcks_ctl (s : State) : (drainAcks s).ctl = s.ctl := rfl
@[simp] theorem drainAcks_tx (s : State) : (drainAcks s).tx = s.tx := rfl
@[simp] theorem drainAcks_rxTab (s : State) : (drainAcks s).rxTab = s.rxTab := rfl
@[simp] theorem drainAcks_ackTab (s : State) : (drainAcks s).ackTab = [] := rfl
@[simp] theorem drainAcks_hid (s : State) : (drainAcks s).hid = s.hid := rfl
@[simp] theorem drainAcks_requests (s : State) : (drainAcks s).requests = s.requests := rfl
@[simp] theorem drainAcks_line (s : State) : (drainAcks s).line = s.line := rfl
@[simp] theorem drainAcks_src (s : State) : (drainAcks s).src = s.src := rfl
@[simp] theorem drainAcks_txf (s : State) : (drainAcks s).txf = s.txf := rfl
@[simp] theorem drainAcks_sink (s : State) : (drainAcks s).sink = s.sink := rfl
@[simp] theorem drainAcks_log (s : State) : (drainAcks s).log = s.log := rfl
@[simp] theorem drainAcks_resp (s : State) : (drainAcks s).resp = s.resp := rfl
@[simp] theorem drainAcks_free (s : State) : (drainAcks s).free = s.free := rfl

@[simp] theorem setExpected_par (p : PeerId) (e : Nat) (s : State) : (setExpected p e s).par = s.par := rfl
@[simp] theorem setExpected_cfg (p : PeerId) (e : Nat) (s : State) : (setExpected p e s).cfg = s.cfg := rfl
@[simp] theorem setExpected_ctl (p : PeerId) (e : Nat) (s : State) : (setExpected p e s).ctl = s.ctl := rfl
@[simp] theorem setExpected_tx (p : PeerId) (e : Nat) (s : State) : (setExpected p e s).tx = s.tx := rfl
@[simp] theorem setExpected_rxTab (p : PeerId) (e : Nat) (s : State) : (setExpected p e s).rxTab = tableInsert s.rxTab p.toNat e := rfl
@[simp] theorem setExpected_ackTab (p : PeerId) (e : Nat) (s : State) : (setExpected p e s).ackTab = s.ackTab := rfl
@[simp] theorem setExpected_hid (p : PeerId) (e : Nat) (s : State) : (setExpected p e s).hid = s.hid := rfl
@[simp] theorem setExpected_requests (p : PeerId) (e : Nat) (s : State) : (setExpected p e s).requests = s.requests := rfl
@[simp] theorem setExpected_line (p : PeerId) (e : Nat) (s : State) : (setExpected p e s).line = s.line := rfl
@[simp] theorem setExpected_src (p : PeerId) (e : Nat) (s : State) : (setExpected p e s).src = s.src := rfl
@[simp] theorem setExpected_txf (p : PeerId) (e : Nat) (s : State) : (setExpected p e s).txf = s.txf := rfl
@[simp] theorem setExpected_sink (p : PeerId) (e : Nat) (s : State) : (setExpected p e s).sink = s.sink := rfl
@[simp] theorem setExpected_log (p : PeerId) (e : Nat) (s : State) : (setExpected p e s).log = s.log := rfl
@[simp] theorem setExpected_resp (p : PeerId) (e : Nat) (s : State) : (setExpected p e s).resp = s.resp := rfl
@[simp] theorem setExpected_free (p : PeerId) (e : Nat) (s : State) : (setExpected p e s).free = s.free := rfl

@[simp] theorem resetCore_par (s : State) : (resetCore s).par = s.par := rfl
@[simp] theorem resetCore_cfg (s : State) : (resetCore s).cfg = CfgRegs.reset := rfl
@[simp] theorem resetCore_ctl (s : State) : (resetCore s).ctl = Control.reset := rfl
@[simp] theorem resetCore_tx (s : State) : (resetCore s).tx = Sender.reset := rfl
@[simp] theorem resetCore_rxTab (s : State) : (resetCore s).rxTab = [] := rfl
@[simp] theorem resetCore_ackTab (s : State) : (resetCore s).ackTab = [] := rfl
@[simp] theorem resetCore_hid (s : State) : (resetCore s).hid = s.hid := rfl
@[simp] theorem resetCore_requests (s : State) : (resetCore s).requests = s.requests := rfl
@[simp] theorem resetCore_line (s : State) : (resetCore s).line = s.line := rfl
@[simp] theorem resetCore_src (s : State) : (resetCore s).src = s.src := rfl
@[simp] theorem resetCore_txf (s : State) : (resetCore s).txf = s.txf := rfl
@[simp] theorem resetCore_sink (s : State) : (resetCore s).sink = s.sink := rfl
@[simp] theorem resetCore_log (s : State) : (resetCore s).log = s.log := rfl
@[simp] theorem resetCore_resp (s : State) : (resetCore s).resp = s.resp := rfl
@[simp] theorem resetCore_free (s : State) : (resetCore s).free = s.free := rfl

@[simp] theorem setAckEntry_par (p : PeerId) (a : Nat) (s : State) : (setAckEntry p a s).par = s.par := rfl
@[simp] theorem setAckEntry_cfg (p : PeerId) (a : Nat) (s : State) : (setAckEntry p a s).cfg = s.cfg := rfl
@[simp] theorem setAckEntry_ctl (p : PeerId) (a : Nat) (s : State) : (setAckEntry p a s).ctl = s.ctl := rfl
@[simp] theorem setAckEntry_tx (p : PeerId) (a : Nat) (s : State) : (setAckEntry p a s).tx = s.tx := rfl
@[simp] theorem setAckEntry_rxTab (p : PeerId) (a : Nat) (s : State) : (setAckEntry p a s).rxTab = s.rxTab := rfl
@[simp] theorem setAckEntry_ackTab (p : PeerId) (a : Nat) (s : State) : (setAckEntry p a s).ackTab = tableInsert s.ackTab p.toNat a := rfl
@[simp] theorem setAckEntry_hid (p : PeerId) (a : Nat) (s : State) : (setAckEntry p a s).hid = s.hid := rfl
@[simp] theorem setAckEntry_requests (p : PeerId) (a : Nat) (s : State) : (setAckEntry p a s).requests = s.requests := rfl
@[simp] theorem setAckEntry_line (p : PeerId) (a : Nat) (s : State) : (setAckEntry p a s).line = s.line := rfl
@[simp] theorem setAckEntry_src (p : PeerId) (a : Nat) (s : State) : (setAckEntry p a s).src = s.src := rfl
@[simp] theorem setAckEntry_txf (p : PeerId) (a : Nat) (s : State) : (setAckEntry p a s).txf = s.txf := rfl
@[simp] theorem setAckEntry_sink (p : PeerId) (a : Nat) (s : State) : (setAckEntry p a s).sink = s.sink := rfl
@[simp] theorem setAckEntry_log (p : PeerId) (a : Nat) (s : State) : (setAckEntry p a s).log = s.log := rfl
@[simp] theorem setAckEntry_resp (p : PeerId) (a : Nat) (s : State) : (setAckEntry p a s).resp = s.resp := rfl
@[simp] theorem setAckEntry_free (p : PeerId) (a : Nat) (s : State) : (setAckEntry p a s).free = s.free := rfl

@[simp] theorem pollReturn_par (st : Status) (v : Value) (k : Option Nat) (x : Option SlotStatus) (a : Option Nat) (s : State) : (pollReturn st v k x a s).par = s.par := rfl
@[simp] theorem pollReturn_cfg (st : Status) (v : Value) (k : Option Nat) (x : Option SlotStatus) (a : Option Nat) (s : State) : (pollReturn st v k x a s).cfg = s.cfg := rfl
@[simp] theorem pollReturn_ctl (st : Status) (v : Value) (k : Option Nat) (x : Option SlotStatus) (a : Option Nat) (s : State) : (pollReturn st v k x a s).ctl = s.ctl := rfl
@[simp] theorem pollReturn_tx (st : Status) (v : Value) (k : Option Nat) (x : Option SlotStatus) (a : Option Nat) (s : State) : (pollReturn st v k x a s).tx = s.tx := rfl
@[simp] theorem pollReturn_rxTab (st : Status) (v : Value) (k : Option Nat) (x : Option SlotStatus) (a : Option Nat) (s : State) : (pollReturn st v k x a s).rxTab = s.rxTab := rfl
@[simp] theorem pollReturn_ackTab (st : Status) (v : Value) (k : Option Nat) (x : Option SlotStatus) (a : Option Nat) (s : State) : (pollReturn st v k x a s).ackTab = s.ackTab := rfl
@[simp] theorem pollReturn_hid (st : Status) (v : Value) (k : Option Nat) (x : Option SlotStatus) (a : Option Nat) (s : State) : (pollReturn st v k x a s).hid = s.hid := rfl
@[simp] theorem pollReturn_requests (st : Status) (v : Value) (k : Option Nat) (x : Option SlotStatus) (a : Option Nat) (s : State) : (pollReturn st v k x a s).requests = s.requests := rfl
@[simp] theorem pollReturn_line (st : Status) (v : Value) (k : Option Nat) (x : Option SlotStatus) (a : Option Nat) (s : State) : (pollReturn st v k x a s).line = s.line := rfl
@[simp] theorem pollReturn_src (st : Status) (v : Value) (k : Option Nat) (x : Option SlotStatus) (a : Option Nat) (s : State) : (pollReturn st v k x a s).src = s.src := rfl
@[simp] theorem pollReturn_txf (st : Status) (v : Value) (k : Option Nat) (x : Option SlotStatus) (a : Option Nat) (s : State) : (pollReturn st v k x a s).txf = s.txf := rfl
@[simp] theorem pollReturn_sink (st : Status) (v : Value) (k : Option Nat) (x : Option SlotStatus) (a : Option Nat) (s : State) : (pollReturn st v k x a s).sink = s.sink := rfl
@[simp] theorem pollReturn_log (st : Status) (v : Value) (k : Option Nat) (x : Option SlotStatus) (a : Option Nat) (s : State) : (pollReturn st v k x a s).log = s.log ++ [{ op := 0x11, status := st, info := .poll v s.tx.dest s.tx.unusedPoint a, subject := { peer := some s.tx.dest, seq := k, slot := x, ack := a } }] := rfl
@[simp] theorem pollReturn_resp (st : Status) (v : Value) (k : Option Nat) (x : Option SlotStatus) (a : Option Nat) (s : State) : (pollReturn st v k x a s).resp = some { line := s.line, status := st, value := v } := rfl
@[simp] theorem pollReturn_free (st : Status) (v : Value) (k : Option Nat) (x : Option SlotStatus) (a : Option Nat) (s : State) : (pollReturn st v k x a s).free = s.free := rfl

@[simp] theorem refusePoll_par (s : State) : (refusePoll s).par = s.par := rfl
@[simp] theorem refusePoll_cfg (s : State) : (refusePoll s).cfg = s.cfg := rfl
@[simp] theorem refusePoll_ctl (s : State) : (refusePoll s).ctl = s.ctl := rfl
@[simp] theorem refusePoll_tx (s : State) : (refusePoll s).tx = s.tx := rfl
@[simp] theorem refusePoll_rxTab (s : State) : (refusePoll s).rxTab = s.rxTab := rfl
@[simp] theorem refusePoll_ackTab (s : State) : (refusePoll s).ackTab = s.ackTab := rfl
@[simp] theorem refusePoll_hid (s : State) : (refusePoll s).hid = s.hid := rfl
@[simp] theorem refusePoll_requests (s : State) : (refusePoll s).requests = s.requests := rfl
@[simp] theorem refusePoll_line (s : State) : (refusePoll s).line = s.line := rfl
@[simp] theorem refusePoll_src (s : State) : (refusePoll s).src = s.src := rfl
@[simp] theorem refusePoll_txf (s : State) : (refusePoll s).txf = s.txf := rfl
@[simp] theorem refusePoll_sink (s : State) : (refusePoll s).sink = s.sink := rfl
@[simp] theorem refusePoll_log (s : State) : (refusePoll s).log = s.log ++ [{ op := 0x11, status := .stateError, info := .refusedPoll 0x11 s.tx.dest s.tx.unusedPoint, subject := { peer := some s.tx.dest } }] := rfl
@[simp] theorem refusePoll_resp (s : State) : (refusePoll s).resp = some { line := s.line, status := .stateError, value := .none } := rfl
@[simp] theorem refusePoll_free (s : State) : (refusePoll s).free = s.free := rfl

@[simp] theorem noteNumber_par (a : Nat) (s : State) : (noteNumber a s).par = s.par := by unfold noteNumber; split <;> rfl
@[simp] theorem noteNumber_cfg (a : Nat) (s : State) : (noteNumber a s).cfg = s.cfg := by unfold noteNumber; split <;> rfl
@[simp] theorem noteNumber_ctl (a : Nat) (s : State) : (noteNumber a s).ctl = s.ctl := by unfold noteNumber; split <;> rfl
@[simp] theorem noteNumber_tx (a : Nat) (s : State) : (noteNumber a s).tx = s.tx := by unfold noteNumber; split <;> rfl
@[simp] theorem noteNumber_rxTab (a : Nat) (s : State) : (noteNumber a s).rxTab = s.rxTab := by unfold noteNumber; split <;> rfl
@[simp] theorem noteNumber_ackTab (a : Nat) (s : State) : (noteNumber a s).ackTab = s.ackTab := by unfold noteNumber; split <;> rfl
@[simp] theorem noteNumber_hid (a : Nat) (s : State) : (noteNumber a s).hid = s.hid := by unfold noteNumber; split <;> rfl
@[simp] theorem noteNumber_requests (a : Nat) (s : State) : (noteNumber a s).requests = s.requests := by unfold noteNumber; split <;> rfl
@[simp] theorem noteNumber_line (a : Nat) (s : State) : (noteNumber a s).line = s.line := by unfold noteNumber; split <;> rfl
@[simp] theorem noteNumber_src (a : Nat) (s : State) : (noteNumber a s).src = s.src := by unfold noteNumber; split <;> rfl
@[simp] theorem noteNumber_txf (a : Nat) (s : State) : (noteNumber a s).txf = s.txf := by unfold noteNumber; split <;> rfl
@[simp] theorem noteNumber_sink (a : Nat) (s : State) : (noteNumber a s).sink = s.sink := by unfold noteNumber; split <;> rfl
@[simp] theorem noteNumber_log (a : Nat) (s : State) : (noteNumber a s).log = s.log := by unfold noteNumber; split <;> rfl
@[simp] theorem noteNumber_resp (a : Nat) (s : State) : (noteNumber a s).resp = s.resp := by unfold noteNumber; split <;> rfl

/-- The counter of free values moves on exactly when the number is above W. -/
@[simp] theorem noteNumber_free (a : Nat) (s : State) : (noteNumber a s).free = if a ≤ s.w then s.free else s.free + 1 := by
  unfold noteNumber; split <;> rfl

/-! ## Derived values depend on the configuration alone -/

theorem w_of_cfg {s t : State} (h : t.cfg = s.cfg) : t.w = s.w := by simp only [State.w, h]

theorem n_of_cfg {s t : State} (h : t.cfg = s.cfg) : t.n = s.n := by simp only [State.n, w_of_cfg h]

theorem seqb_of_cfg {s t : State} (h : t.cfg = s.cfg) : t.seqb = s.seqb := by simp only [State.seqb, w_of_cfg h]

theorem maxp_of_cfg {s t : State} (h : t.cfg = s.cfg) : t.maxp = s.maxp := by simp only [State.maxp, h]

theorem initSeq_of_cfg {s t : State} (h : t.cfg = s.cfg) : t.initSeq = s.initSeq := by simp only [State.initSeq, h]

theorem tmo_of_cfg {s t : State} (h : t.cfg = s.cfg) : t.tmo = s.tmo := by simp only [State.tmo, h]

theorem localId_of_cfg {s t : State} (h : t.cfg = s.cfg) : t.localId = s.localId := by simp only [State.localId, h]

theorem minf_of_cfg {s t : State} (h : t.cfg = s.cfg) : t.minf = s.minf := by simp only [State.minf, seqb_of_cfg h]

theorem maxf_of_cfg {s t : State} (h : t.cfg = s.cfg) : t.maxf = s.maxf := by
  simp only [State.maxf, seqb_of_cfg h, maxp_of_cfg h]

theorem mode_of_cfg {s t : State} (h : t.cfg = s.cfg) (hp : t.par = s.par) : t.mode = s.mode := by
  simp only [State.mode, seqb_of_cfg h, hp]

theorem buildBody_of_cfg {s t : State} (h : t.cfg = s.cfg) (fl : Byte) (p q : PeerId) (v : Nat) (pl : Bytes) :
    buildBody fl p q v pl t = buildBody fl p q v pl s := by simp only [buildBody, seqb_of_cfg h]

theorem buildFrame_of_cfg {s t : State} (h : t.cfg = s.cfg) (fl : Byte) (p q : PeerId) (v : Nat) (pl : Bytes) :
    buildFrame fl p q v pl t = buildFrame fl p q v pl s := by simp only [buildFrame, buildBody_of_cfg h]

theorem decHead_of_cfg {s t : State} (h : t.cfg = s.cfg) (hp : t.par = s.par) (d : Bytes) :
    decHead t d = decHead s d := by
  unfold decHead
  simp only [minf_of_cfg h, maxf_of_cfg h, hp]

theorem decFrame_of_cfg {s t : State} (h : t.cfg = s.cfg) (hp : t.par = s.par) (d : Bytes) :
    decFrame t d = decFrame s d := by
  have hv : ∀ k, decValue t k d = decValue s k d := fun k => by simp only [decValue, seqb_of_cfg h]
  simp only [decFrame, decHead_of_cfg h hp, decTail, w_of_cfg h, seqb_of_cfg h, hv]

end Sys2Proof.Machine
end

