-- ==== Sys2Proof/Laws/Table.lean ====
section
/-! SUPPORT. The laws of keyed storage: what a read finds after a write, and that every operation on a table or on the
slot file keeps its canonical form. -/

namespace Sys2Proof.Machine

variable {α : Type}

/-! ## Reading after writing -/

@[simp] theorem tableFind_nil (k : Nat) : tableFind ([] : List (Nat × α)) k = none := rfl

theorem tableFind_insert_same (m : List (Nat × α)) (k : Nat) (v : α) : tableFind (tableInsert m k v) k = some v := by
  induction m with
  | nil => simp [tableInsert, tableFind]
  | cons e rest ih =>
    obtain ⟨k', v'⟩ := e
    unfold tableInsert
    split
    · simp [tableFind]
    · split
      · simp [tableFind]
      · next h => simp [tableFind, ih, Ne.symm h]

theorem tableFind_insert_other (m : List (Nat × α)) {k j : Nat} (v : α) (h : j ≠ k) :
    tableFind (tableInsert m k v) j = tableFind m j := by
  induction m with
  | nil => simp [tableInsert, tableFind, Ne.symm h]
  | cons e rest ih =>
    obtain ⟨k', v'⟩ := e
    unfold tableInsert
    split
    · simp [tableFind, Ne.symm h]
    · split
      · next he => subst he; simp [tableFind, Ne.symm h]
      · simp [tableFind, ih]

theorem tableFind_erase_other (m : List (Nat × α)) {k j : Nat} (h : j ≠ k) :
    tableFind (tableErase m k) j = tableFind m j := by
  induction m with
  | nil => rfl
  | cons e rest ih =>
    obtain ⟨k', v'⟩ := e
    unfold tableErase
    split
    · next he => subst he; simp [tableFind, Ne.symm h]
    · simp [tableFind, ih]

theorem tableWf_cons (k : Nat) (v : α) (m : List (Nat × α)) :
    tableWf ((k, v) :: m) = true ↔ (∀ e ∈ m, k < e.1) ∧ tableWf m = true := by
  simp [tableWf]

theorem tableFind_none_of_lt (m : List (Nat × α)) {k : Nat} (h : ∀ e ∈ m, k < e.1) : tableFind m k = none := by
  induction m with
  | nil => rfl
  | cons e rest ih =>
    have h1 := h e (by simp)
    simp only [tableFind]
    rw [if_neg (by omega), ih fun e' he' => h e' (by simp [he'])]

theorem tableFind_erase_same (m : List (Nat × α)) (k : Nat) (h : tableWf m = true) :
    tableFind (tableErase m k) k = none := by
  induction m with
  | nil => rfl
  | cons e rest ih =>
    obtain ⟨k', v'⟩ := e
    obtain ⟨h1, h2⟩ := (tableWf_cons k' v' rest).1 h
    unfold tableErase
    split
    · next he => subst he; exact tableFind_none_of_lt rest h1
    · next he => simp [tableFind, he, ih h2]

/-! ## Members -/

theorem mem_tableInsert {m : List (Nat × α)} {k : Nat} {v : α} {e : Nat × α} (h : e ∈ tableInsert m k v) :
    e = (k, v) ∨ e ∈ m := by
  induction m with
  | nil => simpa [tableInsert] using h
  | cons a rest ih =>
    obtain ⟨k', v'⟩ := a
    unfold tableInsert at h
    split at h
    · simpa using h
    · split at h
      · rcases List.mem_cons.1 h with h | h
        · exact .inl h
        · exact .inr (by simp [h])
      · rcases List.mem_cons.1 h with h | h
        · exact .inr (by simp [h])
        · rcases ih h with h | h
          · exact .inl h
          · exact .inr (by simp [h])

theorem mem_tableErase {m : List (Nat × α)} {k : Nat} {e : Nat × α} (h : e ∈ tableErase m k) : e ∈ m := by
  induction m with
  | nil => exact h
  | cons a rest ih =>
    obtain ⟨k', v'⟩ := a
    unfold tableErase at h
    split at h
    · simp [h]
    · rcases List.mem_cons.1 h with h | h
      · simp [h]
      · simp [ih h]

/-! ## Canonical form of the tables -/

theorem tableInsert_wf (m : List (Nat × α)) (k : Nat) (v : α) (h : tableWf m = true) :
    tableWf (tableInsert m k v) = true := by
  induction m with
  | nil => simp [tableInsert, tableWf]
  | cons e rest ih =>
    obtain ⟨k', v'⟩ := e
    obtain ⟨h1, h2⟩ := (tableWf_cons k' v' rest).1 h
    unfold tableInsert
    split
    · next hlt =>
      refine (tableWf_cons _ _ _).2 ⟨fun e he => ?_, h⟩
      rcases List.mem_cons.1 he with he | he
      · simpa [he] using hlt
      · exact hlt.trans (h1 e he)
    · split
      · next he => subst he; exact (tableWf_cons _ _ _).2 ⟨h1, h2⟩
      · refine (tableWf_cons _ _ _).2 ⟨fun e he => ?_, ih h2⟩
        rcases mem_tableInsert he with he | he
        · subst he; simp only; omega
        · exact h1 e he

theorem tableErase_wf (m : List (Nat × α)) (k : Nat) (h : tableWf m = true) : tableWf (tableErase m k) = true := by
  induction m with
  | nil => rfl
  | cons e rest ih =>
    obtain ⟨k', v'⟩ := e
    obtain ⟨h1, h2⟩ := (tableWf_cons k' v' rest).1 h
    unfold tableErase
    split
    · exact h2
    · exact (tableWf_cons _ _ _).2 ⟨fun e he => h1 e (mem_tableErase he), ih h2⟩

/-! ## The slot file -/

theorem slotsWf_iff (m : List (Nat × Slot)) :
    slotsWf m = true ↔ tableWf m = true ∧ ∀ e ∈ m, e.2 ≠ Slot.blank := by
  simp [slotsWf]

theorem slotWrite_wf (m : List (Nat × Slot)) (i : Nat) (v : Slot) (h : slotsWf m = true) :
    slotsWf (slotWrite m i v) = true := by
  obtain ⟨h1, h2⟩ := (slotsWf_iff m).1 h
  unfold slotWrite
  split
  · exact (slotsWf_iff _).2 ⟨tableErase_wf m i h1, fun e he => h2 e (mem_tableErase he)⟩
  · next hv =>
    refine (slotsWf_iff _).2 ⟨tableInsert_wf m i v h1, fun e he => ?_⟩
    rcases mem_tableInsert he with he | he
    · subst he; exact hv
    · exact h2 e he

theorem slotRead_write_same (m : List (Nat × Slot)) (i : Nat) (v : Slot) (h : slotsWf m = true) :
    slotRead (slotWrite m i v) i = v := by
  unfold slotRead slotWrite
  split
  · next hv => rw [tableFind_erase_same m i ((slotsWf_iff m).1 h).1, hv]; rfl
  · rw [tableFind_insert_same]; rfl

/-- Writing a slot that is not blank is read back whatever the form of the file. -/
theorem slotRead_write_listed (m : List (Nat × Slot)) (i : Nat) (v : Slot) (h : v ≠ Slot.blank) :
    slotRead (slotWrite m i v) i = v := by
  unfold slotRead slotWrite
  rw [if_neg h, tableFind_insert_same]; rfl

theorem slotRead_write_other (m : List (Nat × Slot)) {i j : Nat} (v : Slot) (h : j ≠ i) :
    slotRead (slotWrite m i v) j = slotRead m j := by
  unfold slotRead slotWrite
  split
  · rw [tableFind_erase_other m h]
  · rw [tableFind_insert_other m v h]

theorem slotEmpty_wf (m : List (Nat × Slot)) (i : Nat) (h : slotsWf m = true) : slotsWf (slotEmpty m i) = true :=
  slotWrite_wf m i _ h

theorem foldl_slotEmpty_wf (js : List Nat) (m : List (Nat × Slot)) (h : slotsWf m = true) :
    slotsWf (js.foldl slotEmpty m) = true := by
  induction js generalizing m with
  | nil => exact h
  | cons j js ih => exact ih _ (slotEmpty_wf m j h)

theorem key_of_mem_slotsEmptyTo {w : Nat} {m : List (Nat × Slot)} {e : Nat × Slot} (h : e ∈ slotsEmptyTo w m) :
    ∃ e' ∈ m, e'.1 = e.1 := by
  induction m with
  | nil => simp [slotsEmptyTo] at h
  | cons a rest ih =>
    obtain ⟨k, v⟩ := a
    have up : e ∈ slotsEmptyTo w rest → ∃ e' ∈ (k, v) :: rest, e'.1 = e.1 := fun h => by
      obtain ⟨e', h1, h2⟩ := ih h
      exact ⟨e', by simp [h1], h2⟩
    unfold slotsEmptyTo at h
    split at h
    · rcases List.mem_cons.1 h with h | h
      · exact ⟨(k, v), by simp, by simp [h]⟩
      · exact up h
    · split at h
      · exact up h
      · rcases List.mem_cons.1 h with h | h
        · exact ⟨(k, v), by simp, by simp [h]⟩
        · exact up h

theorem slotsEmptyTo_wf (w : Nat) (m : List (Nat × Slot)) (h : slotsWf m = true) : slotsWf (slotsEmptyTo w m) = true := by
  induction m with
  | nil => rfl
  | cons a rest ih =>
    obtain ⟨k, v⟩ := a
    obtain ⟨h1, h2⟩ := (slotsWf_iff _).1 h
    obtain ⟨h3, h4⟩ := (tableWf_cons k v rest).1 h1
    have hr := ih ((slotsWf_iff _).2 ⟨h4, fun e he => h2 e (by simp [he])⟩)
    obtain ⟨h5, h6⟩ := (slotsWf_iff _).1 hr
    have hk : ∀ e ∈ slotsEmptyTo w rest, k < e.1 := fun e he => by
      obtain ⟨e', h7, h8⟩ := key_of_mem_slotsEmptyTo he
      exact h8 ▸ h3 e' h7
    have put : ∀ v', v' ≠ Slot.blank → slotsWf ((k, v') :: slotsEmptyTo w rest) = true := fun v' hv =>
      (slotsWf_iff _).2 ⟨(tableWf_cons _ _ _).2 ⟨hk, h5⟩, fun e he => by
        rcases List.mem_cons.1 he with he | he
        · subst he; exact hv
        · exact h6 e he⟩
    unfold slotsEmptyTo
    split
    · exact put v (h2 (k, v) (by simp))
    · split
      · exact hr
      · next hv => exact put _ hv

/-- Emptying the window leaves no valid slot up to `w`. -/
theorem slotsEmptyTo_invalid (w : Nat) (m : List (Nat × Slot)) {i : Nat} (h : i ≤ w) :
    (slotRead (slotsEmptyTo w m) i).valid = false := by
  induction m with
  | nil => rfl
  | cons a rest ih =>
    obtain ⟨k, v⟩ := a
    unfold slotsEmptyTo
    split
    · next hw =>
      have : ¬ k = i := by omega
      simpa [slotRead, tableFind, this] using ih
    · split
      · exact ih
      · by_cases hk : k = i
        · simp [slotRead, tableFind, hk, slotEmptied]
        · simpa [slotRead, tableFind, hk] using ih

end Sys2Proof.Machine
end

