-- ==== Sys2Proof/Laws/Ops.lean ====
section
/-! SUPPORT. For each shared operation, once, everything it can do: what it writes, what it leaves, and when it stops. -/

namespace Sys2Proof.Machine

/-! ## Cyclic arithmetic, 00 R14 -/

theorem cycInc_lt {n : Nat} (h : 0 < n) (a : Nat) : cycInc n a < n := Nat.mod_lt _ h

theorem cycAdd_lt {n : Nat} (h : 0 < n) (a k : Nat) : cycAdd n a k < n := Nat.mod_lt _ h

theorem cycDist_lt {n : Nat} (h : 0 < n) (a b : Nat) : cycDist n a b < n := Nat.mod_lt _ h

theorem n_pos (s : State) : 0 < s.n := Nat.succ_pos _

/-- `cdist(a, a) = 0`. -/
theorem cycDist_self {n : Nat} (a : Nat) : cycDist n a a = 0 := by simp [cycDist]

/-- `b − a` is `b − a + N` when `b < a` (42 R205). -/
theorem cycDist_eq {n a b : Nat} (ha : a < n) (hb : b < n) :
    cycDist n a b = if a ≤ b then b - a else b + n - a := by
  unfold cycDist
  split
  · rw [show b + n - a = b - a + n by omega, Nat.add_mod_right, Nat.mod_eq_of_lt (by omega)]
  · rw [Nat.mod_eq_of_lt (by omega)]

/-- Walking `cdist(a, b)` steps from `a` ends at `b`. -/
theorem cycAdd_cycDist {n a b : Nat} (ha : a < n) (hb : b < n) : cycAdd n a (cycDist n a b) = b := by
  rw [cycDist_eq ha hb]
  unfold cycAdd
  split
  · rw [show a + (b - a) = b by omega, Nat.mod_eq_of_lt hb]
  · rw [show a + (b + n - a) = b + n by omega, Nat.add_mod_right, Nat.mod_eq_of_lt hb]

@[simp] theorem cycFrom_length (n a k : Nat) : (cycFrom n a k).length = k := by
  induction k generalizing a with
  | zero => rfl
  | succ k ih => simp [cycFrom, ih]

/-! ## raise, 60 R300 -/

/-- An error changes the response and the log and nothing else. -/
theorem raise_eq (op : Byte) (st : Status) (info : LogInfo) (subject : LogSubject) (s : State) :
    raise op st info subject s =
      { s with log := s.log ++ [{ op := op, status := st, info := info, subject := subject }],
               resp := some { line := s.line, status := st, value := .none } } := rfl

/-! ## What an operation may touch -/

/-- `t` agrees with `s` on all but the slot file, the exhaustion record, SRC and the hidden state. -/
structure SameButFill (s t : State) : Prop where
  par : t.par = s.par
  cfg : t.cfg = s.cfg
  ctl : t.ctl = s.ctl
  tx : t.tx = { s.tx with slots := t.tx.slots, exhausted := t.tx.exhausted, eosValid := t.tx.eosValid, eos := t.tx.eos }
  rxTab : t.rxTab = s.rxTab
  ackTab : t.ackTab = s.ackTab
  hid : t.hid = { s.hid with acc := t.hid.acc }
  requests : t.requests = s.requests
  line : t.line = s.line
  txf : t.txf = s.txf
  sink : t.sink = s.sink
  log : t.log = s.log
  resp : t.resp = s.resp
  free : t.free = s.free

theorem SameButFill.refl (s : State) : SameButFill s s :=
  ⟨rfl, rfl, rfl, rfl, rfl, rfl, rfl, rfl, rfl, rfl, rfl, rfl, rfl, rfl⟩

theorem SameButFill.trans {s t v : State} (h : SameButFill s t) (k : SameButFill t v) : SameButFill s v where
  par := k.par.trans h.par
  cfg := k.cfg.trans h.cfg
  ctl := k.ctl.trans h.ctl
  tx := by rw [k.tx, h.tx]
  rxTab := k.rxTab.trans h.rxTab
  ackTab := k.ackTab.trans h.ackTab
  hid := by rw [k.hid, h.hid]
  requests := k.requests.trans h.requests
  line := k.line.trans h.line
  txf := k.txf.trans h.txf
  sink := k.sink.trans h.sink
  log := k.log.trans h.log
  resp := k.resp.trans h.resp
  free := k.free.trans h.free

theorem setAcc_frame (v : BitVec 16) (s : State) : SameButFill s (setAcc v s) :=
  ⟨rfl, rfl, rfl, rfl, rfl, rfl, rfl, rfl, rfl, rfl, rfl, rfl, rfl, rfl⟩

theorem setSlot_frame (i : Nat) (v : Slot) (s : State) : SameButFill s (setSlot i v s) :=
  ⟨rfl, rfl, rfl, rfl, rfl, rfl, rfl, rfl, rfl, rfl, rfl, rfl, rfl, rfl⟩

theorem fillSlot_frame (i : Nat) (c : Bytes) (s : State) : SameButFill s (fillSlot i c s) :=
  (setSlot_frame i _ s).trans (setAcc_frame _ _)

/-- A fill writes one slot of the slot file. -/
theorem fillSlot_slots (i : Nat) (c : Bytes) (s : State) :
    ∃ v, (fillSlot i c s).tx.slots = slotWrite s.tx.slots i v := by
  simp only [fillSlot, setAcc_tx, setSlot_tx]
  exact ⟨_, rfl⟩

theorem withSrc_frame (rest : List SrcAnswer) (s : State) : SameButFill s { s with src := rest } :=
  ⟨rfl, rfl, rfl, rfl, rfl, rfl, rfl, rfl, rfl, rfl, rfl, rfl, rfl, rfl⟩

theorem markExhausted_frame (i : Nat) (s : State) : SameButFill s (markExhausted i s) :=
  ⟨rfl, rfl, rfl, rfl, rfl, rfl, rfl, rfl, rfl, rfl, rfl, rfl, rfl, rfl⟩

theorem freeSlots_frame (js : List Nat) (s : State) : SameButFill s (freeSlots js s) :=
  ⟨rfl, rfl, rfl, rfl, rfl, rfl, rfl, rfl, rfl, rfl, rfl, rfl, rfl, rfl⟩

/-- The fill loop, one slot at a time: it ends, meets EOS, stops on an oversize chunk, or fills and goes on
(42 R184, R188). -/
theorem refill_cons (i : Nat) (is : List Nat) (s : State) :
    refill (i :: is) s =
      if s.tx.exhausted then .ok s
      else
        match pullSrc s.src with
        | (.eos, rest) => .ok (markExhausted i { s with src := rest })
        | (.chunk c, rest) =>
          if s.maxp < c.length then .error (.srcChunkTooLong c.length)
          else refill is (fillSlot i c { s with src := rest }) := rfl

/-- The fill loop writes the slot file, the exhaustion record, SRC and the accumulator only. -/
theorem refill_frame {is : List Nat} {s t : State} (h : refill is s = .ok t) : SameButFill s t := by
  induction is generalizing s with
  | nil => cases h; exact .refl _
  | cons i is ih =>
    rw [refill_cons] at h
    split at h
    · cases h; exact .refl _
    · split at h
      · cases h; exact (withSrc_frame _ _).trans (markExhausted_frame i _)
      · split at h
        · cases h
        · exact ((withSrc_frame _ _).trans (fillSlot_frame i _ _)).trans (ih h)

@[simp] theorem fillSlot_src (i : Nat) (c : Bytes) (s : State) : (fillSlot i c s).src = s.src := by
  simp only [fillSlot, setAcc_src, setSlot_src]

theorem fillSlot_maxp (i : Nat) (c : Bytes) (s : State) : (fillSlot i c s).maxp = s.maxp := by
  unfold State.maxp
  rw [(fillSlot_frame i c s).cfg]

/-- While the source keeps its contract the fill loop does not stop (42 R181). -/
theorem refill_ok {is : List Nat} {s : State} (h : ∀ c, SrcAnswer.chunk c ∈ s.src → c.length ≤ s.maxp) :
    ∃ t, refill is s = .ok t := by
  induction is generalizing s with
  | nil => exact ⟨s, rfl⟩
  | cons i is ih =>
    rw [refill_cons]
    split
    · exact ⟨_, rfl⟩
    · rcases hs : s.src with _ | ⟨_ | _, rest⟩
      · exact ⟨_, rfl⟩
      · next c =>
        have hc : ¬ s.maxp < c.length := Nat.not_lt.2 (h c (by simp [hs]))
        simp only [pullSrc, if_neg hc]
        refine ih fun c' hc' => ?_
        rw [fillSlot_src] at hc'
        rw [fillSlot_maxp]
        exact h c' (by simp [hs, hc'])
      · exact ⟨_, rfl⟩

/-- The fill loop keeps the slot file canonical. -/
theorem refill_slotsWf {is : List Nat} {s t : State} (hw : slotsWf s.tx.slots = true) (h : refill is s = .ok t) :
    slotsWf t.tx.slots = true := by
  induction is generalizing s with
  | nil => cases h; exact hw
  | cons i is ih =>
    rw [refill_cons] at h
    split at h
    · cases h; exact hw
    · split at h
      · cases h; exact hw
      · split at h
        · cases h
        · refine ih ?_ h
          obtain ⟨v, hv⟩ := fillSlot_slots i _ { s with src := _ }
          rw [hv]
          exact slotWrite_wf _ _ _ hw

/-- A slide is the free step, the fill loop and the new `unusedPoint` (42 R186). -/
theorem slideTo_cases {a : Nat} {s t : State} (h : slideTo a s = .ok t) :
    ∃ t1,
      refill (cycRange s.n s.tx.unusedPoint a) (freeSlots (cycRangeOpen s.n s.tx.unusedPoint a) s) = .ok t1 ∧
      SameButFill s t1 ∧ t = { t1 with tx := { t1.tx with unusedPoint := a } } := by
  unfold slideTo at h
  split at h
  · cases h
  · next s1 h1 => cases h; exact ⟨s1, h1, (freeSlots_frame _ s).trans (refill_frame h1), rfl⟩

/-- While the source keeps its contract a slide does not stop. -/
theorem slideTo_ok {a : Nat} {s : State} (h : ∀ c, SrcAnswer.chunk c ∈ s.src → c.length ≤ s.maxp) :
    ∃ t, slideTo a s = .ok t := by
  obtain ⟨t, ht⟩ := refill_ok (is := cycRange s.n s.tx.unusedPoint a)
    (s := freeSlots (cycRangeOpen s.n s.tx.unusedPoint a) s) h
  exact ⟨_, by rw [slideTo, ht]⟩

/-- A slide keeps the slot file canonical. -/
theorem slideTo_slotsWf {a : Nat} {s t : State} (hw : slotsWf s.tx.slots = true) (h : slideTo a s = .ok t) :
    slotsWf t.tx.slots = true := by
  obtain ⟨t1, h1, -, rfl⟩ := slideTo_cases h
  have hf : slotsWf (freeSlots (cycRangeOpen s.n s.tx.unusedPoint a) s).tx.slots = true := foldl_slotEmpty_wf _ _ hw
  have ht := refill_slotsWf hf h1
  exact ht

/-! ## Numbers above W -/

/-- A number in [0, W] is taken as itself. -/
theorem numberTaken_of_le {a : Nat} {s : State} (h : a ≤ s.w) : numberTaken a s = a := if_pos h

/-- Whatever the number, it is taken as one in [0, W]. -/
theorem numberTaken_le (a : Nat) (s : State) : numberTaken a s ≤ s.w := by
  unfold numberTaken
  split
  · assumption
  · exact Nat.lt_succ_iff.1 (Nat.mod_lt _ (n_pos s))

theorem noteNumber_of_le {a : Nat} {s : State} (h : a ≤ s.w) : noteNumber a s = s := if_pos h

theorem noteNumber_of_lt {a : Nat} {s : State} (h : s.w < a) : noteNumber a s = { s with free := s.free + 1 } :=
  if_neg (Nat.not_le.2 h)

/-- A posted number in [0, W] writes the ack table alone (20 R71). -/
theorem postAck_of_le {p : PeerId} {a : Nat} {s : State} (h : a ≤ s.w) : postAck p a s = setAckEntry p a s := by
  rw [postAck, numberTaken_of_le h, noteNumber_of_le h]

/-- A posted number, whatever it is, writes one entry in [0, W] of the ack table and at most the counter of free values
(20 R71). -/
theorem postAck_cases (p : PeerId) (a : Nat) (s : State) :
    ∃ b ≤ s.w, postAck p a s = setAckEntry p b (noteNumber a s) := ⟨_, numberTaken_le a s, rfl⟩

/-- The marks of a rewind write the slot file alone (42 R194). -/
theorem foldl_markSlot_frame (b : Nat) (is : List Nat) (s : State) :
    is.foldl (markSlot b) s = { s with tx := { s.tx with slots := (is.foldl (markSlot b) s).tx.slots } } := by
  induction is generalizing s with
  | nil => rfl
  | cons i is ih =>
    rw [List.foldl_cons, ih]
    unfold markSlot
    split <;> rfl

theorem rewindMarks_frame (b c : Nat) (s : State) :
    rewindMarks b c s = { s with tx := { s.tx with slots := (rewindMarks b c s).tx.slots } } :=
  foldl_markSlot_frame b _ s

theorem rewindMarks_slotsWf (b c : Nat) {s : State} (hw : slotsWf s.tx.slots = true) :
    slotsWf (rewindMarks b c s).tx.slots = true := by
  unfold rewindMarks
  generalize cycRange s.n b c = is
  induction is generalizing s with
  | nil => exact hw
  | cons i is ih =>
    rw [List.foldl_cons]
    refine ih ?_
    unfold markSlot
    split
    · exact slotWrite_wf _ _ _ hw
    · exact hw

/-- DEC leaves its trace in the accumulator alone (41 R150). -/
theorem decTrace_frame (d : Bytes) (s : State) :
    decTrace d s = { s with hid := { s.hid with acc := (decTrace d s).hid.acc } } := by
  unfold decTrace
  split <;> rfl

/-- What one datagram can do: be refused because the receive role is stopped, be dropped by DEC or by the address
test, or be dispatched by its kind (43 R221). -/
theorem receiveDatagram_cases (d : Bytes) (s : State) :
    ((s.ctl.cfgValid = false ∨ s.ctl.rxEn = false) ∧ receiveDatagram d s = raiseState 0x20 {} s) ∨
    (s.ctl.cfgValid = true ∧ s.ctl.rxEn = true ∧
      ((∃ e : Failure, decFrame s d = .error e ∧
          receiveDatagram d s = raise 0x20 e.status e.info e.subject (decTrace d (loadRxbuf d s))) ∨
        (∃ x, decFrame s d = .ok x ∧ frameDst x ≠ s.localId ∧
          receiveDatagram d s = raise 0x20 .addressMismatch (.address (frameSrc x) (frameDst x) (frameKind x))
            (frameSubject x) (decTrace d (loadRxbuf d s))) ∨
        (∃ x, decFrame s d = .ok x ∧ frameDst x = s.localId ∧
          receiveDatagram d s = receiveFrame x (decTrace d (loadRxbuf d s))))) := by
  by_cases h : s.ctl.cfgValid = false ∨ s.ctl.rxEn = false
  · exact .inl ⟨h, by rw [receiveDatagram, if_pos h]⟩
  · have h' : s.ctl.cfgValid = true ∧ s.ctl.rxEn = true := by simpa using h
    refine .inr ⟨h'.1, h'.2, ?_⟩
    rw [receiveDatagram, if_neg h]
    rcases hd : decFrame s d with e | x
    · exact .inl ⟨e, rfl, rfl⟩
    · by_cases hx : frameDst x = s.localId
      · exact .inr (.inr ⟨x, rfl, hx, by simp [hx]⟩)
      · exact .inr (.inl ⟨x, rfl, hx, by simp [hx]⟩)

/-- Everything RX.ACK can do: drop the frame because the table is full, or post its number (43 R228). -/
theorem receiveAck_cases (src : PeerId) (ack : Nat) (s : State) :
    (noRoom s.ackTab src s = true ∧
      receiveAck src ack s = raise 0x85 .tableFull (.peer src) { peer := some src, ack := some ack } s) ∨
    (noRoom s.ackTab src s = false ∧
      receiveAck src ack s =
        respond .okAck .none
          (writeLog 0x85 .okAck (.ack src ack) { peer := some src, ack := some ack } (postAck src ack s))) := by
  cases h : noRoom s.ackTab src s <;> simp [receiveAck, h]

end Sys2Proof.Machine
end

