-- ==== Sys2Proof/Laws/PerInstr.lean ====
section
/-! SUPPORT. Facts said of every constructor of Instr, one lemma each. -/

namespace Sys2Proof.Laws

/-! ## A command carries its code and its fields; a frame begins with its flag (30 R91, R100, R101) -/

/-- What presents `i` starts with its code: a command with its row's byte on its own line, a frame with its flag. -/
def Leads.Statement (i : Instr) : Prop :=
  ∀ m : Mode,
    match encode m i with
    | .command line code f => line = lineOf i ∧ code = codeOf m i ∧ f = fieldsOf i
    | .datagram d => d.head? = some (codeOf m i) ∧ lineOf i = .receiveRole

theorem Leads.reset : Leads.Statement .reset := fun _ => ⟨rfl, rfl, rfl⟩
theorem Leads.cfgSet (r v) : Leads.Statement (.cfgSet r v) := fun _ => ⟨rfl, rfl, rfl⟩
theorem Leads.cfgCommit : Leads.Statement .cfgCommit := fun _ => ⟨rfl, rfl, rfl⟩
theorem Leads.csrRead (r) : Leads.Statement (.csrRead r) := fun _ => ⟨rfl, rfl, rfl⟩
theorem Leads.rxRun : Leads.Statement .rxRun := fun _ => ⟨rfl, rfl, rfl⟩
theorem Leads.rxStop : Leads.Statement .rxStop := fun _ => ⟨rfl, rfl, rfl⟩
theorem Leads.syncSend (d) : Leads.Statement (.syncSend d) := fun _ => ⟨rfl, rfl, rfl⟩
theorem Leads.txStart (d) : Leads.Statement (.txStart d) := fun _ => ⟨rfl, rfl, rfl⟩
theorem Leads.txPoll (now) : Leads.Statement (.txPoll now) := fun _ => ⟨rfl, rfl, rfl⟩
theorem Leads.txAbort : Leads.Statement .txAbort := fun _ => ⟨rfl, rfl, rfl⟩
theorem Leads.rxDgram (s) : Leads.Statement (.rxDgram s) := fun _ => ⟨rfl, rfl, rfl⟩
theorem Leads.crc16 (s) : Leads.Statement (.crc16 s) := fun _ => ⟨rfl, rfl, rfl⟩
theorem Leads.crcChk (s) : Leads.Statement (.crcChk s) := fun _ => ⟨rfl, rfl, rfl⟩
theorem Leads.encData (p q n s) : Leads.Statement (.encData p q n s) := fun _ => ⟨rfl, rfl, rfl⟩
theorem Leads.encAck (p q n) : Leads.Statement (.encAck p q n) := fun _ => ⟨rfl, rfl, rfl⟩
theorem Leads.encSync (p q) : Leads.Statement (.encSync p q) := fun _ => ⟨rfl, rfl, rfl⟩
theorem Leads.dec (s) : Leads.Statement (.dec s) := fun _ => ⟨rfl, rfl, rfl⟩
theorem Leads.txSlide (a) : Leads.Statement (.txSlide a) := fun _ => ⟨rfl, rfl, rfl⟩
theorem Leads.txTochk (now) : Leads.Statement (.txTochk now) := fun _ => ⟨rfl, rfl, rfl⟩
theorem Leads.ackPost (p a) : Leads.Statement (.ackPost p a) := fun _ => ⟨rfl, rfl, rfl⟩
theorem Leads.ackDrain : Leads.Statement .ackDrain := fun _ => ⟨rfl, rfl, rfl⟩
theorem Leads.rxData (p q n s) : Leads.Statement (.rxData p q n s) := fun _ => ⟨rfl, rfl, rfl⟩
theorem Leads.rxAck (p q n) : Leads.Statement (.rxAck p q n) := fun _ => ⟨rfl, rfl, rfl⟩
theorem Leads.rxSync (p q) : Leads.Statement (.rxSync p q) := fun _ => ⟨rfl, rfl, rfl⟩
theorem Leads.crcInit : Leads.Statement .crcInit := fun _ => ⟨rfl, rfl, rfl⟩
theorem Leads.crcByte (b) : Leads.Statement (.crcByte b) := fun _ => ⟨rfl, rfl, rfl⟩
theorem Leads.frameData (p q n s c) : Leads.Statement (.frameData p q n s c) := fun _ => ⟨rfl, rfl⟩
theorem Leads.frameAck (p q n c) : Leads.Statement (.frameAck p q n c) := fun _ => ⟨rfl, rfl⟩
theorem Leads.frameSync (p q n c) : Leads.Statement (.frameSync p q n c) := fun _ => ⟨rfl, rfl⟩

end Sys2Proof.Laws
end

