-- ==== Sys2Proof/Tests/Slice0.lean ====
section
/-! SUPPORT. The model's own tests: the smoke test of WellFormed, decoding of words written from 30 R90 and R100, and one
step each on small states. Expected values come from spec/95_test_vectors.md and spec/96_traces.md. -/

namespace Sys2Proof.Tests

open Sys2Proof.Machine

set_option Elab.async false

/-! ## States and peers of 95 -/

/-- Peer A of 95. -/
def peerA : PeerId := 0x02000000000a#48
/-- Peer B of 95. -/
def peerB : PeerId := 0x02000000000b#48
/-- Peer C of 95. -/
def peerC : PeerId := 0x02000000000c#48

/-- A configured and running core (common setting of 95): N and SEQB given by hand. -/
def coreOf (me : PeerId) (w initSeq seqb : Nat) : State :=
  { State.reset with
    cfg := { w := BitVec.ofNat 32 w, maxp := 1024, initSeq := BitVec.ofNat 32 initSeq, tmo := 200, localId := me }
    ctl := { rxEn := true, cfgValid := true, seqMod := BitVec.ofNat 32 (w + 1), seqBytes := BitVec.ofNat 8 seqb } }

/-- Core A, W = 4, INIT = 0. -/
def coreA : State := coreOf peerA 4 0 1
/-- Core B, W = 4, INIT = 0. -/
def coreB : State := coreOf peerB 4 0 1

/-- The one-byte chunks a0, a1, … of the traces, `k` of them, then EOS. -/
def chunks (k : Nat) : List SrcAnswer := (List.range k).map (fun j => .chunk [BitVec.ofNat 8 (0xa0 + j)]) ++ [.eos]

/-- The state of a step, or the state it began in when it stops. -/
def after (o : Host.Outcome State Fault Refusal) (s : State) : State :=
  match o with
  | .next t => t
  | .fault _ => s
  | .refused _ => s

/-- Core A after TX.START B with `k` chunks. -/
def started (k : Nat) : State :=
  after (exec (.txStart peerB) { coreA with src := chunks k }) coreA

/-- What an operation answered. -/
def answer (o : Host.Outcome State Fault Refusal) : Option (Status × Value) :=
  match o with
  | .next t => t.resp.map (fun r => (r.status, r.value))
  | .fault _ => none
  | .refused _ => none

/-- valid, status, timestamp (if stamped) of slots 0 .. w, as the traces print them. -/
def slotsShown (s : State) : List (Option (SlotStatus × Option Nat)) :=
  (List.range s.n).map fun i =>
    if (s.slot i).valid then
      some ((s.slot i).status, if (s.slot i).stamped then some (s.slot i).sendTime else none)
    else none

/-! ## WellFormed refuses -/

theorem test_wellFormed_refuses_wide_register_value :
    wellFormed Mode.default (.cfgSet 0 0x100000000#48) = false := by decide +kernel

theorem test_wellFormed_refuses_wide_poll_time : wellFormed Mode.default (.txPoll (2 ^ 64)) = false := by decide +kernel

theorem test_wellFormed_refuses_wide_check_time : wellFormed Mode.default (.txTochk (2 ^ 64)) = false := by decide +kernel

theorem test_wellFormed_refuses_wide_data_number :
    wellFormed Mode.default (.frameData peerA peerB 256 [] 0) = false := by decide +kernel

theorem test_wellFormed_refuses_wide_ack_number : wellFormed Mode.default (.frameAck peerA peerB 256 0) = false := by
  decide +kernel

theorem test_wellFormed_refuses_wide_sync_field : wellFormed Mode.default (.frameSync peerA peerB 256 0) = false := by
  decide +kernel

/-! ## Decoding words of 30 R100 -/

/-- Every code of 30 R100 with operand fields of zeros, in the table's order. -/
theorem test_decode_every_code :
    [0x00, 0x01, 0x02, 0x03, 0x04, 0x05, 0x06, 0x10, 0x11, 0x12, 0x20, 0x30, 0x31, 0x40, 0x41, 0x42, 0x43].map
        (decodeTableWord 8) =
      [some .reset, some (.cfgSet 0 0), some .cfgCommit, some (.csrRead 0), some .rxRun, some .rxStop,
        some (.syncSend 0), some (.txStart 0), some (.txPoll 0), some .txAbort, some (.rxDgram []), some (.crc16 []),
        some (.crcChk []), some (.encData 0 0 0 []), some (.encAck 0 0 0), some (.encSync 0 0), some (.dec [])] := by
  decide +kernel

theorem test_decode_every_sub_operation :
    [0x80, 0x81, 0x82, 0x83, 0x84, 0x85, 0x86, 0x88, 0x89].map (decodeTableWord 8) =
      [some (.txSlide 0), some (.txTochk 0), some (.ackPost 0 0), some .ackDrain, some (.rxData 0 0 0 []),
        some (.rxAck 0 0 0), some (.rxSync 0 0), some .crcInit, some (.crcByte 0)] := by
  decide +kernel

/-- V-CMD of 95: codes that are not in the list. -/
theorem test_decode_refuses_unknown_codes :
    [0x07, 0x13, 0x44, 0x7F, 0x87, 0xFF].map (decodeTableWord 8) = [none, none, none, none, none, none] := by
  decide +kernel

/-- 30 R101: a sub-operation code presented by the host. -/
theorem test_decode_refuses_sub_operation_of_host :
    decode Mode.default (.command .host 0x80 Fields.zero) = .error (.subOperation 0x80) := by decide +kernel

/-- The operand fields reach the operation (30 R100). -/
theorem test_decode_operands :
    decode Mode.default (.command .host 0x40 { Fields.zero with p := peerA, q := peerB, n := 3, s := [0x68, 0x69] }) =
      .ok (.encData peerA peerB 3 [0x68, 0x69]) ∧
    decode Mode.default (.command .host 0x01 { Fields.zero with r := 4, v := peerA }) = .ok (.cfgSet 4 peerA) ∧
    decode Mode.default (.command .internal 0x89 { Fields.zero with b := 0x31 }) = .ok (.crcByte 0x31) := by
  decide +kernel

/-! ## Decoding frames of 95, V-ENC -/

/-- V-ENC 1, byte by byte. -/
def wireData : Bytes :=
  [0x01, 0x02, 0, 0, 0, 0, 0x0a, 0x02, 0, 0, 0, 0, 0x0b, 0x03, 0x68, 0x69, 0xe5, 0x12]
/-- V-ENC 12. -/
def wireAck : Bytes := [0x02, 0x02, 0, 0, 0, 0, 0x0b, 0x02, 0, 0, 0, 0, 0x0a, 0x03, 0xbc, 0x8a]
/-- V-ENC 17. -/
def wireSync : Bytes := [0x03, 0x02, 0, 0, 0, 0, 0x0a, 0x02, 0, 0, 0, 0, 0x0b, 0x00, 0x83, 0x6a]
/-- V-ENC 18, W = 260. -/
def wireData2 : Bytes :=
  [0x01, 0x02, 0, 0, 0, 0, 0x0a, 0x02, 0, 0, 0, 0, 0x0b, 0x01, 0x03, 0xde, 0xad, 0xda, 0xa4]

theorem test_decode_frame_data :
    decode Mode.default (.datagram wireData) = .ok (.frameData peerA peerB 3 [0x68, 0x69] 0xe512) := by decide +kernel

theorem test_decode_frame_ack :
    decode Mode.default (.datagram wireAck) = .ok (.frameAck peerB peerA 3 0xbc8a) := by decide +kernel

theorem test_decode_frame_sync :
    decode Mode.default (.datagram wireSync) = .ok (.frameSync peerA peerB 0 0x836a) := by decide +kernel

/-- The same frames as words of the opcode table, the first byte in bits 7..0. -/
theorem test_decode_frame_words :
    decodeTableWord 144 0x12e56968030b00000000020a000000000201 = some (.frameData peerA peerB 3 [0x68, 0x69] 0xe512) ∧
    decodeTableWord 128 0x8abc030a00000000020b000000000202 = some (.frameAck peerB peerA 3 0xbc8a) ∧
    decodeTableWord 128 0x6a83000b00000000020a000000000203 = some (.frameSync peerA peerB 0 0x836a) := by decide +kernel

theorem test_decode_frame_two_sequence_bytes :
    decode { Mode.default with seqb := 2 } (.datagram wireData2) =
      .ok (.frameData peerA peerB 259 [0xde, 0xad] 0xdaa4) := by decide +kernel

theorem test_decode_refuses_unknown_flag :
    decode Mode.default (.datagram [0x09]) = .error (.unknownFlag 0x09) := by decide +kernel

/-! ## Cyclic arithmetic and SEQB, V-CYC and V-SEQB -/

theorem test_cyclic_arithmetic :
    [cycInc 5 4, cycInc 5 0, cycAdd 5 0 4, cycAdd 5 1 4, cycAdd 5 4 4, cycAdd 5 3 0, cycDist 5 4 0, cycDist 5 4 3,
        cycDist 5 4 4, cycDist 5 0 4, cycDist 5 2 1, cycInc 2 1, cycAdd 2 1 1, cycAdd 2 0 1, cycDist 2 1 0] =
      [0, 1, 4, 0, 3, 3, 1, 4, 0, 4, 4, 0, 0, 1, 1] := by decide

theorem test_cyclic_ranges :
    cycRangeOpen 5 4 2 = [0, 1, 2] ∧ cycRange 5 4 2 = [4, 0, 1] ∧ cycRange 5 3 3 = [] ∧ cycRangeOpen 5 0 0 = [] := by
  decide

theorem test_sequence_bytes :
    [1, 4, 7, 254, 255, 256, 260, 65535, 65536].map seqBytesOf = [1, 1, 1, 1, 1, 2, 2, 2, 3] := by decide

/-! ## CRC, V-CRC, V-BYTE, V-CHK -/

/-- The nine ASCII digits. -/
def digits : Bytes := [0x31, 0x32, 0x33, 0x34, 0x35, 0x36, 0x37, 0x38, 0x39]

theorem test_crc16_check_value : crc16 digits = 0x29B1#16 := by decide +kernel

theorem test_crc16_values :
    [[], [0x00], [0xFF], [0x41], [0x00, 0x00], [0xFF, 0xFF]].map crc16 =
      [0xFFFF#16, 0xE1F0#16, 0xFF00#16, 0xB915#16, 0x1D0F#16, 0x0000#16] := by decide +kernel

theorem test_crc_bit_steps :
    [0x8000#16, 0x4000#16, 0xFFFF#16, 0x0000#16, 0x0001#16].map crcBitStep =
      [0x1021#16, 0x8000#16, 0xEFDF#16, 0x0000#16, 0x0002#16] := by decide +kernel

theorem test_crcByte :
    (after (exec (.crcByte 0x31) (after (exec .crcInit State.reset) State.reset)) State.reset).hid.acc = 0xC782#16 := by
  decide +kernel

theorem test_crc16_answers : answer (exec (.crc16 digits) State.reset) = some (.ok, .crc 0x29B1) := by decide +kernel

theorem test_crcChk_answers :
    [digits ++ [0x29, 0xB1], digits ++ [0x29, 0xB0], [0xFF, 0xFF], [0x00, 0x00], [0xFF]].map
        (fun d => answer (exec (.crcChk d) State.reset)) =
      [some (.ok, .bit true), some (.ok, .bit false), some (.ok, .bit true), some (.ok, .bit false),
        some (.stateError, .none)] := by decide +kernel

/-! ## Codec, V-ENC, V-ENC-ERR, V-DEC -/

theorem test_encData : answer (exec (.encData peerA peerB 3 [0x68, 0x69]) coreA) = some (.ok, .bytes wireData) := by
  decide +kernel

theorem test_encData_refusals :
    [exec (.encData peerA peerA 9 []) coreA, exec (.encData peerA peerB 5 []) coreA,
        exec (.encData peerA peerB 0 (List.replicate 1025 0)) coreA,
        exec (.encData peerA peerB 0 []) State.reset].map answer =
      [some (.peerIdentityCollision, .none), some (.rangeError, .none), some (.lengthError, .none),
        some (.stateError, .none)] := by decide +kernel

theorem test_encAck_two_sequence_bytes :
    answer (exec (.encAck peerB peerA 260) (coreOf peerB 260 0 2)) =
      some (.ok, .bytes [0x02, 0x02, 0, 0, 0, 0, 0x0b, 0x02, 0, 0, 0, 0, 0x0a, 0x01, 0x04, 0xca, 0xb1]) := by
  decide +kernel

theorem test_encAck_refusals :
    [exec (.encAck peerB peerA 5) coreA, exec (.encAck peerB peerB 0) coreA].map answer =
      [some (.rangeError, .none), some (.peerIdentityCollision, .none)] := by decide +kernel

theorem test_encSync : answer (exec (.encSync peerA peerB) coreA) = some (.ok, .bytes wireSync) := by decide +kernel

theorem test_dec_accepts :
    [wireData, wireAck, wireSync].map (fun d => answer (exec (.dec d) coreA)) =
      [some (.ok, .frame (.data peerA peerB 3 [0x68, 0x69])), some (.ok, .frame (.ack peerB peerA 3)),
        some (.ok, .frame (.sync peerA peerB))] := by decide +kernel

/-- V-DEC 6, 7, 8, 12, 15, 17, 18, 20. -/
theorem test_dec_refuses_in_order :
    [[], [0x09], [0x01],
        [0x02, 0x02, 0, 0, 0, 0, 0x0b, 0x02, 0, 0, 0, 0, 0x0a, 0x03, 0x00, 0xec, 0x57],
        [0x01, 0x02, 0, 0, 0, 0, 0x0a, 0x02, 0, 0, 0, 0, 0x0b, 0x03, 0x68, 0x69, 0xe5, 0x13],
        [0x01, 0x02, 0, 0, 0, 0, 0x0a, 0x02, 0, 0, 0, 0, 0x0a, 0x03, 0x68, 0x69, 0xe5, 0x12],
        [0x01, 0x02, 0, 0, 0, 0, 0x0a, 0x02, 0, 0, 0, 0, 0x0b, 0x05, 0x78, 0x86, 0x58],
        [0x01, 0x02, 0, 0, 0, 0, 0x0a, 0x02, 0, 0, 0, 0, 0x0a, 0x01, 0x78, 0x7d, 0xac]].map
        (fun d => (answer (exec (.dec d) coreA)).map Prod.fst) =
      [some .lengthError, some .formatError, some .lengthError, some .lengthError, some .integrityError,
        some .integrityError, some .rangeError, some .peerIdentityCollision] := by decide +kernel

/-! ## Receiver, V-RX -/

/-- Core B holding an entry for A. -/
def coreBExpecting (e : Nat) : State := { coreB with rxTab := [(peerA.toNat, e)] }

/-- V-RX 1 as a frame on RXF, served by a step. -/
theorem test_frameData_in_order :
    (fun t : State => (t.resp.map Response.status, t.rxTab, t.sink, t.txf))
        (after (step { coreB with requests := [.datagram
          [0x01, 0x02, 0, 0, 0, 0, 0x0a, 0x02, 0, 0, 0, 0, 0x0b, 0x00, 0xa0, 0x33, 0xd8]] }) coreB) =
      (some .okData, [(peerA.toNat, 1)], [⟨peerA, [0xa0]⟩],
        [⟨[0x02, 0x02, 0, 0, 0, 0, 0x0b, 0x02, 0, 0, 0, 0, 0x0a, 0x00, 0x8c, 0xe9], .ack, true⟩]) := by decide +kernel

/-- V-RX 5: first contact with the wrong number. -/
theorem test_rxDgram_first_contact_mismatch :
    (fun t : State => (t.resp.map Response.status, t.rxTab, t.sink, t.txf.map Emission.bytes))
        (after (exec (.rxDgram
          [0x01, 0x02, 0, 0, 0, 0, 0x0c, 0x02, 0, 0, 0, 0, 0x0b, 0x02, 0x7a, 0x7a, 0xe6, 0xde]) (coreBExpecting 2)) coreB) =
      (some .sequenceMismatch, [(peerA.toNat, 2), (peerC.toNat, 0)], [],
        [[0x02, 0x02, 0, 0, 0, 0, 0x0b, 0x02, 0, 0, 0, 0, 0x0c, 0x04, 0x66, 0xcb]]) := by decide +kernel

/-- V-RX 7: a valid frame for another core; its record names the source and the number. -/
theorem test_rxDgram_foreign_frame :
    (fun t : State => (t.resp.map Response.status, t.rxTab, t.txf, t.log.map LogRecord.subject))
        (after (exec (.rxDgram
          [0x01, 0x02, 0, 0, 0, 0, 0x0a, 0x02, 0, 0, 0, 0, 0x0c, 0x00, 0x71, 0x6d, 0x14]) (coreBExpecting 2)) coreB) =
      (some .addressMismatch, [(peerA.toNat, 2)], [], [{ peer := some peerA, seq := some 0 }]) := by decide +kernel

theorem test_frameAck_posts :
    (fun t : State => (t.resp.map Response.status, t.ackTab))
        (after (exec (.frameAck peerB peerA 3 0xbc8a) { coreA with ackTab := [(peerB.toNat, 1)] }) coreA) =
      (some .okAck, [(peerB.toNat, 3)]) := by decide +kernel

theorem test_frameSync_clears :
    (fun t : State => (t.resp.map Response.status, t.rxTab, t.txf))
        (after (exec (.frameSync peerA peerB 0 0x836a) { coreB with rxTab := [(peerA.toNat, 2), (peerC.toNat, 1)] }) coreB) =
      (some .okSync, [(peerC.toNat, 1)], []) := by decide +kernel

theorem test_rxData_wraps :
    (after (exec (.rxData peerA peerB 4 [0xa4]) (coreBExpecting 4)) coreB).rxTab = [(peerA.toNat, 0)] := by decide +kernel

/-- 95, V-RX with `MAX_PEERS = 1`. -/
theorem test_rxData_table_full :
    (fun t : State => (t.resp.map Response.status, t.rxTab, t.txf))
        (after (exec (.rxData peerC peerB 2 []) { coreBExpecting 2 with par := { Params.default with maxPeers := some 1 } })
          coreB) =
      (some .tableFull, [(peerA.toNat, 2)], []) := by decide +kernel

theorem test_rxAck_table_full :
    answer (exec (.rxAck peerC peerB 2)
        { coreB with ackTab := [(peerA.toNat, 1)], par := { Params.default with maxPeers := some 1 } }) =
      some (.tableFull, .none) := by decide +kernel

theorem test_rxSync_absent :
    (after (exec (.rxSync peerC peerB) (coreBExpecting 2)) coreB).rxTab = [(peerA.toNat, 2)] := by decide +kernel

/-- 20 R71. -/
theorem test_ackPost :
    (after (exec (.ackPost peerB 3) { coreA with ackTab := [(peerB.toNat, 1)] }) coreA).ackTab = [(peerB.toNat, 3)] ∧
    (after (exec (.ackPost peerC 0) { coreA with ackTab := [(peerB.toNat, 3)] }) coreA).ackTab =
      [(peerB.toNat, 3), (peerC.toNat, 0)] := by decide +kernel

/-- A number above W: the entry is made and the operation completes. -/
theorem test_ackPost_above_window :
    (fun t : State => (t.resp.map Response.status, t.ackTab.map Prod.fst, t.free))
        (after (exec (.ackPost peerB 5) coreA) coreA) = (some .ok, [peerB.toNat], 1) := by decide +kernel

/-- 20 R72. -/
theorem test_ackDrain :
    (fun t : State => (t.ackTab, t.resp.map Response.value))
        (after (exec .ackDrain { coreA with ackTab := [(peerB.toNat, 3), (peerC.toNat, 0)] }) coreA) =
      ([], some (.map [(peerB.toNat, 3), (peerC.toNat, 0)])) := by decide +kernel

/-! ## Sender, V-START, V-SLIDE, V-TOCHK and the traces -/

theorem test_txStart_ten_chunks :
    (fun s : State => (slotsShown s, s.tx.unusedPoint, s.tx.cursor, s.tx.exhausted, s.tx.txState, s.src.length))
        (started 10) =
      ([some (.new, none), some (.new, none), some (.new, none), some (.new, none), none], 4, 0, false, .fill, 7) := by
  decide +kernel

/-- V-START, W = 4, INIT = 3, two chunks. -/
theorem test_txStart_two_chunks_wrap :
    (fun s : State => (slotsShown s, s.tx.unusedPoint, s.tx.cursor, s.tx.eosValid, s.tx.eos, s.tx.txState))
        (after (exec (.txStart peerB) { coreOf peerA 4 3 1 with src := chunks 2 }) coreA) =
      ([none, none, none, some (.new, none), some (.new, none)], 2, 3, true, 0, .drain) := by decide +kernel

/-- V-SLIDE, six chunks, a = 2: exhaustion in mid-slide. -/
theorem test_txSlide_exhausts :
    (fun s : State => (slotsShown s, s.tx.unusedPoint, s.tx.eos, s.tx.exhausted))
        (after (exec (.txSlide 2) (started 6)) coreA) =
      ([some (.new, none), none, none, some (.new, none), some (.new, none)], 2, 1, true) := by decide +kernel

/-- A number above W does not end a run. -/
theorem test_txSlide_above_window : goesOn (exec (.txSlide 5) { started 6 with src := [] }) = true := by
  obtain ⟨t, ht⟩ := slideTo_ok (a := numberTaken 5 { started 6 with src := [] })
    (s := noteNumber 5 { started 6 with src := [] }) (by simp)
  simp only [exec, execTxSlide, ht, goesOn]

/-- The state of T2 before its poll at 204: slots 3, 4, 0, 1 sent at 3, 4, 5, 6. -/
def t2Waiting : State :=
  let s := started 10
  let sent (k t : Nat) : Nat × Slot :=
    (k, { Slot.blank with valid := true, frame := [BitVec.ofNat 8 k], flen := 1, stamped := true, sendTime := t })
  { s with tx := { s.tx with slots := [sent 0 5, sent 1 6, sent 3 3, sent 4 4], unusedPoint := 2, cursor := 2 } }

/-- V-TOCHK: elapsed 200 is healthy, 201 is not. -/
theorem test_txTochk_is_strict :
    [203, 204].map (fun now => answer (exec (.txTochk now) t2Waiting)) =
      [some (.ok, .bit true), some (.ok, .bit false)] := by decide +kernel

/-- T1, first poll. -/
theorem test_txPoll_sends_first_frame :
    (fun s : State => (s.resp.map Response.value, s.tx.cursor, s.tx.framesSent, s.tx.bytesSent, s.txf.map Emission.bytes))
        (after (exec (.txPoll 0) (started 10)) coreA) =
      (some (.sent 0 .new), 1, 1, 17,
        [[0x01, 0x02, 0, 0, 0, 0, 0x0a, 0x02, 0, 0, 0, 0, 0x0b, 0x00, 0xa0, 0x33, 0xd8]]) := by decide +kernel

/-- T2, the poll at 204. -/
theorem test_txPoll_rewinds :
    (fun s : State => (s.resp.map Response.value, s.tx.cursor, slotsShown s))
        (after (exec (.txPoll 204) t2Waiting) coreA) =
      (some (.number 3), 3,
        [some (.retransmitted, none), some (.retransmitted, none), none, some (.timedOut, none),
          some (.retransmitted, none)]) := by decide +kernel

/-- The state of T3 before its poll at 202: slots 0 .. 3 sent at 0 .. 3, acknowledgement 0 waiting. -/
def t3Waiting (cursor ack : Nat) (polled : Nat) : State :=
  let s := started 10
  { s with
    tx := { s.tx with
      slots := s.tx.slots.map (fun e => if e.1 < polled then (e.1, { e.2 with stamped := true, sendTime := e.1 }) else e)
      cursor := cursor }
    ackTab := [(peerB.toNat, ack)] }

/-- T3: the tie-break. -/
theorem test_txPoll_tie_break :
    (fun s : State => (s.resp.map Response.status, s.tx.cursor, slotsShown s))
        (after (exec (.txPoll 202) (t3Waiting 4 0 4)) coreA) =
      (some .pollRewind, 1,
        [none, some (.new, none), some (.new, some 2), some (.new, some 3), some (.new, none)]) := by decide +kernel

/-- T3b: the cursor beyond the acknowledged region. -/
theorem test_txPoll_rewinds_beyond_acknowledged :
    (fun s : State => (s.tx.cursor, slotsShown s)) (after (exec (.txPoll 202) (t3Waiting 3 0 3)) coreA) =
      (1, [none, some (.timedOut, none), some (.retransmitted, none), some (.new, none), some (.new, none)]) := by
  decide +kernel

/-- T4, the poll at 203: the cursor 1 lies in the acknowledged region 0 .. 3. -/
theorem test_txPoll_normalises :
    (fun s : State => (s.resp.map Response.value, s.tx.unusedPoint, s.tx.cursor))
        (after (exec (.txPoll 3) (t3Waiting 1 3 1)) coreA) = (some (.sent 4 .new), 3, 0) := by decide +kernel

/-- T4 with the parameter false. -/
theorem test_txPoll_without_normalisation :
    (fun s : State => (s.resp.map Response.value, s.tx.cursor))
        (after (exec (.txPoll 3)
          { t3Waiting 1 3 1 with par := { Params.default with normaliseOnSlide := false } }) coreA) =
      (some (.sent 1 .new), 2) := by decide +kernel

/-- T10: the terminal acknowledgement in FILL. -/
theorem test_txPoll_done_from_fill :
    (fun s : State => (s.resp.map Response.value, s.tx.txState, s.tx.eos, (slotsShown s).all Option.isNone))
        (after (exec (.txPoll 4) { started 4 with ackTab := [(peerB.toNat, 3)] }) coreA) =
      (some (.number 3), .done, 4, true) := by decide +kernel

/-- T7, the polls at 2 and 4: skip, then idle. -/
theorem test_txPoll_skips_and_idles :
    (fun s : State => [
        answer (exec (.txPoll 2) { s with tx := { s.tx with cursor := 2 } }),
        answer (exec (.txPoll 4) { s with tx := { s.tx with cursor := 4 } })])
        (started 2) =
      [some (.pollSkip, .number 2), some (.pollIdle, .none)] := by decide +kernel

theorem test_txAbort :
    (fun s : State => (s.tx.txState, s.tx.aborted, s.tx.exhausted, (slotsShown s).all Option.isNone))
        (after (exec .txAbort (started 2)) coreA) = (.done, true, true, true) := by
  decide +kernel

/-! ## Host operations, V-COMMIT, V-RESET, P4 -/

theorem test_cfgCommit_rows :
    [(4, 1024, 0), (260, 1024, 254), (65535, 4096, 0), (0, 1024, 0), (65536, 1024, 0), (4, 4097, 0), (4, 1024, 5),
        (300, 1024, 255)].map
        (fun row => (fun t : State => (t.resp.map Response.status, t.ctl.seqMod, t.ctl.seqBytes, ctrlBits t))
          (after (exec .cfgCommit { State.reset with cfg :=
            { CfgRegs.reset with w := BitVec.ofNat 32 row.1, maxp := BitVec.ofNat 32 row.2.1,
                                 initSeq := BitVec.ofNat 32 row.2.2 } }) State.reset)) =
      [(some .ok, 5, 1, 2), (some .ok, 261, 2, 2), (some .ok, 65536, 2, 2), (some .configurationError, 0, 0, 0),
        (some .configurationError, 0, 0, 0), (some .configurationError, 0, 0, 0), (some .configurationError, 0, 0, 0),
        (some .configurationError, 0, 0, 0)] := by decide +kernel

theorem test_cfgSet_invalidates :
    (fun t : State => (t.resp.map Response.status, t.cfg.w, t.ctl.cfgValid, t.ctl.seqMod))
        (after (exec (.cfgSet 0 8) { coreA with ctl := { coreA.ctl with rxEn := false } }) coreA) =
      (some .ok, 8, false, 5) := by decide +kernel

theorem test_cfgSet_refused_while_running : answer (exec (.cfgSet 0 8) coreA) = some (.stateError, .none) := by
  decide +kernel

/-- P4 after TX.ABORT. -/
theorem test_csrRead_after_abort :
    (fun s : State => [0x20, 0x22, 0x24, 0x25, 0x26].map (fun r => answer (exec (.csrRead r) s)))
        (after (exec .txAbort (after (exec (.txPoll 5) (started 2)) coreA)) coreA) =
      [some (.ok, .register 3), some (.ok, .register 4), some (.ok, .register 1), some (.ok, .register 0x10002),
        some (.ok, .register 3)] := by decide +kernel

theorem test_csrRead_reserved : answer (exec (.csrRead 0x09) coreA) = some (.stateError, .none) := by decide +kernel

theorem test_syncSend :
    (fun t : State => (t.resp.map Response.status, t.txf)) (after (exec (.syncSend peerB) coreA) coreA) =
      (some .ok, [⟨wireSync, .sync, false⟩]) := by decide +kernel

theorem test_rxRun_rxStop :
    [exec .rxRun State.reset, exec .rxRun coreA, exec .rxStop State.reset].map answer =
      [some (.stateError, .none), some (.ok, .none), some (.ok, .none)] := by decide +kernel

theorem test_reset_during_transfer :
    (fun t : State => (t.tx, t.cfg, t.ctl, t.txf)) (after (exec .reset (started 2)) coreA) =
      (Sender.reset, CfgRegs.reset, Control.reset, []) := by decide +kernel

/-- 30 R101, V-CMD. -/
theorem test_step_unknown_code :
    answer (step { coreA with requests := [.command .host 0x07 Fields.zero] }) = some (.stateError, .none) ∧
    answer (step { coreA with requests := [.command .sendRole 0x80 Fields.zero] }) = some (.stateError, .none) := by
  decide +kernel

/-- The word interface runs a sub-operation on the internal line. -/
theorem test_step_fetch_word :
    answer (step (State.reset.withFetchWord 8 0x88)) = some (.ok, .none) ∧
    answer (step (State.reset.withFetchWord 8 0x10)) = some (.stateError, .none) := by decide +kernel

/-- 44 R270 and 42 R200: the status of RX.DGRAM goes to the receive role, that of TX.POLL to the send role, and the record
of a refused poll names `dest` and `u`. -/
theorem test_step_answers_the_role :
    [0x20, 0x11, 0x05].map (fun w => (after (step (State.reset.withFetchWord 8 w)) State.reset).resp.map Response.line) =
      [some .receiveRole, some .sendRole, some .host] ∧
    (after (step (State.reset.withFetchWord 8 0x11)) State.reset).log =
      [⟨0x11, .stateError, .refusedPoll 0x11 0 0, { peer := some 0 }⟩] := by decide +kernel

end Sys2Proof.Tests
end

