-- ==== Sys2Proof/Tests/Witnesses.lean ====
section
/-! SUPPORT. For every statement that has hypotheses, concrete states and operands that meet them all together, one
theorem a statement, with the boundary values of its clauses. `goesOn (exec i s)` says that `exec i s` is `.next t`, and
`after (exec i s) s` is that `t`. -/

namespace Sys2Proof.Tests

open Sys2Proof.Machine

set_option Elab.async false

/-! ## Steps and encoding -/

theorem witness_StepRunsTheDecodedOperation :
    (State.reset.withFetchWord 8 0x06).requests = .command .host 0x06 Fields.zero :: [] ∧
    decode (State.reset.withFetchWord 8 0x06).mode (.command .host 0x06 Fields.zero) = .ok (.syncSend 0) ∧
    State.reset.requests = [] := by decide +kernel

theorem witness_UnlistedOrSubOperationCodeRaisesStateError :
    (∀ c ∈ [0x07, 0x7F, 0x87, 0xFF], c ∉ [0x00, 0x01, 0x02, 0x03, 0x04, 0x05, 0x06, 0x10, 0x11, 0x12, 0x20, 0x30, 0x31,
      0x40, 0x41, 0x42, 0x43, 0x80, 0x81, 0x82, 0x83, 0x84, 0x85, 0x86, 0x88, 0x89]) ∧
    (∀ c ∈ [0x80#8, 0x89#8], 0x80 ≤ c.toNat ∧ Line.host ≠ .internal) := by decide

theorem witness_EveryDatagramIsOneRxDgram :
    ({ coreB with requests := [.datagram wireData] } : State).requests = .datagram wireData :: [] ∧
    ({ coreB with requests := [.command .host 0x20 { Fields.zero with s := wireData }] } : State).requests =
      .command .host 0x20 { Fields.zero with s := wireData } :: [] ∧
    (∀ r ∈ [Presented.datagram wireData, .command .host 0x20 { Fields.zero with s := wireData }],
      goesOn (step { coreB with requests := [r] }) = true) := by decide +kernel

theorem witness_EncodedOperationsDecodeToThemselves :
    Mode.default.flagsDiffer = true ∧ wellFormed Mode.default (.frameData peerA peerB 255 [0x68] 0xe512) = true ∧
    wellFormed Mode.default (.frameSync peerA peerB 0 0) = true ∧ wellFormed Mode.default (.txPoll (2 ^ 64 - 1)) = true ∧
    wellFormed Mode.default (.cfgSet 3 0xFFFFFFFF#48) = true ∧ wellFormed Mode.default (.cfgSet 4 peerA) = true := by
  decide +kernel

theorem witness_DecodedDatagramsEncodeToThemselves :
    decode Mode.default (.datagram wireAck) = .ok (.frameAck peerB peerA 3 0xbc8a) := by decide +kernel

/-! ## CRC and codec -/

theorem witness_CrcChkComparesTheCheckField : ([] : Bytes).length < 2 ∧ ([0xFF] : Bytes).length < 2 := by decide

theorem witness_CrcLaws :
    (∀ k ∈ [0, 7, 71], k < 8 * digits.length) ∧ (∀ k ∈ [0, 71, 72, 87], k < 8 * (digits.length + 2)) ∧
    crcMatches (digits ++ [0x29, 0xB1]) = true ∧ digits.length = (List.replicate 9 (0x80 : Byte)).length := by
  decide +kernel

theorem witness_EncodersReturnTheFrame :
    coreA.ctl.cfgValid = true ∧ peerA ≠ peerB ∧ (∀ n ∈ [0, 4], n ≤ coreA.w) ∧
    (∀ k ∈ [0, 1024], (List.replicate k (0 : Byte)).length ≤ coreA.maxp) := by decide +kernel

theorem witness_EncodersRefuseInOrder :
    coreA.ctl.cfgValid = true ∧ peerA ≠ peerB ∧ coreA.w < 5 ∧ 4 ≤ coreA.w ∧
    coreA.maxp < (List.replicate 1025 (0 : Byte)).length := by decide +kernel

theorem witness_DecodingInvertsEncoding :
    coreA.ctl.cfgValid = true ∧ coreA.par.flagsDiffer = true ∧ peerA ≠ peerB ∧ 4 ≤ coreA.w ∧
    (List.replicate 1024 (0 : Byte)).length ≤ coreA.maxp ∧
    (∀ d ∈ [wireData, wireAck, wireSync],
      (after (exec (.dec d) coreA) coreA).resp.map Response.status = some .ok ∧ goesOn (exec (.dec d) coreA) = true) := by
  decide +kernel

/-- A frame with number 5 above W = 4, and one with equal addresses (41 R157). -/
def wireRange : Bytes := [0x01, 0x02, 0, 0, 0, 0, 0x0a, 0x02, 0, 0, 0, 0, 0x0b, 0x05, 0x78, 0x86, 0x58]
/-- See `wireRange`. -/
def wireSelf : Bytes := [0x01, 0x02, 0, 0, 0, 0, 0x0a, 0x02, 0, 0, 0, 0, 0x0a, 0x01, 0x78, 0x7d, 0xac]
/-- `wireData` with its last byte changed. -/
def wireBroken : Bytes := [0x01, 0x02, 0, 0, 0, 0, 0x0a, 0x02, 0, 0, 0, 0, 0x0b, 0x03, 0x68, 0x69, 0xe5, 0x13]

theorem witness_DecTestsInOrder :
    coreA.ctl.cfgValid = true ∧ ¬ Spec.flagKnown coreA [0x09] ∧
    (Spec.flagKnown coreA [0x01] ∧ ¬ Spec.lengthFits coreA [0x01]) ∧
    (Spec.flagKnown coreA (wireAck ++ [0]) ∧ ¬ Spec.lengthFits coreA (wireAck ++ [0])) ∧
    (Spec.flagKnown coreA wireBroken ∧ Spec.lengthFits coreA wireBroken ∧
      crc16 (wireBroken.take (wireBroken.length - 2)) ≠ fieldCrc wireBroken) ∧
    (Spec.flagKnown coreA wireRange ∧ Spec.lengthFits coreA wireRange ∧
      crc16 (wireRange.take (wireRange.length - 2)) = fieldCrc wireRange ∧
      coreA.w < unbe (slice wireRange 13 (13 + coreA.seqb))) ∧
    (Spec.flagKnown coreA wireSelf ∧ Spec.lengthFits coreA wireSelf ∧
      crc16 (wireSelf.take (wireSelf.length - 2)) = fieldCrc wireSelf ∧
      unbe (slice wireSelf 13 (13 + coreA.seqb)) ≤ coreA.w ∧ slice wireSelf 1 7 = slice wireSelf 7 13) := by
  unfold Spec.flagKnown Spec.lengthFits
  decide +kernel

theorem witness_OneFlippedBitIsNeverAccepted :
    coreA.ctl.cfgValid = true ∧ decFrame coreA wireData = .ok (.data peerA peerB 3 [0x68, 0x69]) ∧
    decFrame coreA wireAck = .ok (.ack peerB peerA 3) ∧ (∀ k ∈ [0, 7, 8, 143], k < 8 * wireData.length) ∧
    ¬ Spec.flagKnown coreA (Spec.flipBit wireData 0) ∧
    (Spec.flagKnown coreA (Spec.flipBit wireData 6) ∧ ¬ Spec.lengthFits coreA (Spec.flipBit wireData 6)) ∧
    (Spec.flagKnown coreA (Spec.flipBit wireAck 7) ∧ Spec.lengthFits coreA (Spec.flipBit wireAck 7)) ∧
    coreA.par = Params.default ∧ coreA.w = 4 ∧ coreA.maxp = 1024 := by
  unfold Spec.flagKnown Spec.lengthFits
  decide +kernel

/-! ## Host -/

theorem witness_UnconfiguredCoreRefusesProtocolOperations : State.reset.ctl.cfgValid = false := rfl

/-- At the last register number that may be written, 4, and the first that may not, 5. -/
theorem witness_CfgSetWritesOneRegister :
    ¬ Spec.locked State.reset ∧ Spec.locked coreA ∧ Spec.locked (started 10) ∧
    (after (exec (.cfgSet 4 peerA) State.reset) State.reset).cfg.localId = peerA ∧
    answer (exec (.cfgSet 5 0) State.reset) = some (.stateError, .none) := by
  unfold Spec.locked Spec.transfers
  decide +kernel

/-- A stopped, idle core with the given `CFG_W`, `CFG_MAXP` and `CFG_INIT`. -/
def stoppedWith (w maxp initSeq : Nat) : State :=
  { State.reset with cfg :=
    { CfgRegs.reset with w := BitVec.ofNat 32 w, maxp := BitVec.ofNat 32 maxp, initSeq := BitVec.ofNat 32 initSeq } }

theorem witness_CfgCommitPutsLegalConfigurationInForce :
    ∀ s ∈ [stoppedWith 1 1 0, stoppedWith 65535 4096 254, stoppedWith 4 1024 4],
      ¬ Spec.locked s ∧ 1 ≤ s.w ∧ s.w ≤ s.par.wMax ∧ 1 ≤ s.maxp ∧ s.maxp ≤ 4096 ∧ s.initSeq ≤ 254 ∧ s.initSeq ≤ s.w := by
  unfold Spec.locked Spec.transfers
  decide +kernel

theorem witness_CfgCommitRefusesIllegalConfiguration :
    Spec.locked coreA ∧ ¬ Spec.locked (stoppedWith 0 0 0) ∧ ¬ (1 ≤ (stoppedWith 0 0 0).w) ∧
    ¬ ((stoppedWith 65536 0 0).w ≤ (stoppedWith 65536 0 0).par.wMax) ∧
    (1 ≤ (stoppedWith 4 0 0).w ∧ (stoppedWith 4 0 0).w ≤ (stoppedWith 4 0 0).par.wMax ∧ ¬ (1 ≤ (stoppedWith 4 0 0).maxp)) ∧
    ¬ ((stoppedWith 4 4097 0).maxp ≤ 4096) ∧ 254 < (stoppedWith 300 1024 255).initSeq ∧
    ((stoppedWith 4 1024 5).initSeq ≤ 254 ∧ (stoppedWith 4 1024 5).w < (stoppedWith 4 1024 5).initSeq) := by
  unfold Spec.locked Spec.transfers
  decide +kernel

theorem witness_CsrReadReturnsTheRegister :
    (0x28, 0) ∈ Spec.registers State.reset ∧ 0x09 ∉ (Spec.registers State.reset).map Prod.fst := by decide +kernel

theorem witness_RxRunAndRxStopSwitchTheReceiveRole :
    coreA.ctl.cfgValid = true ∧ goesOn (exec .rxStop coreA) = true := by decide +kernel

theorem witness_SyncSendEmitsOneSyncFrame : coreA.ctl.cfgValid = true ∧ peerB ≠ coreA.localId ∧ peerA = coreA.localId := by
  decide +kernel

/-! ## Sender -/

theorem witness_TxStartFillsTheWindow :
    ∀ s ∈ [{ coreA with src := chunks 10 }, { coreA with src := chunks 2 }, coreA, { coreOf peerA 4 4 1 with src := chunks 4 }],
      s.ctl.cfgValid = true ∧ ¬ Spec.transfers s ∧ peerB ≠ s.localId ∧ s.initSeq ≤ s.w ∧ srcKeepsContract s = true := by
  unfold Spec.transfers
  decide +kernel

theorem witness_SenderRefusesInTheWrongState :
    coreA.ctl.cfgValid = true ∧ Spec.transfers (started 10) ∧ (started 10).ctl.cfgValid = true ∧ ¬ Spec.transfers coreA ∧
    peerA = coreA.localId := by
  unfold Spec.transfers
  decide +kernel

theorem witness_TxSlideFreesAndRefills :
    ∀ s ∈ [started 10, started 6, started 4, started 2],
      slotsWf s.tx.slots = true ∧ (∀ a ∈ [0, 2, 4], a ≤ s.w) ∧ s.tx.unusedPoint ≤ s.w ∧ srcKeepsContract s = true := by
  decide +kernel

theorem witness_NumbersAboveWAreTakenAsSomeNumberOfTheWindow :
    coreA.w < 5 ∧ (started 10).w < 5 ∧ srcKeepsContract (started 10) = true ∧ ¬ Spec.full coreA.ackTab peerB coreA ∧
    (Spec.mayPoll { started 10 with ackTab := [(peerB.toNat, 5)] } ∧
      Spec.ackFor { started 10 with ackTab := [(peerB.toNat, 5)] } = some 5) ∧
    coreA.ctl.cfgValid = true ∧ ¬ Spec.transfers coreA ∧
    peerB ≠ coreA.localId ∧ 1 ≤ coreA.w ∧ coreA.maxp < (List.replicate 1025 (0 : Byte)).length := by
  unfold Spec.full Spec.mayPoll Spec.transfers Spec.ackFor
  decide +kernel

theorem witness_TxTochkJudgesTheOldestSlot :
    Spec.unhealthy 204 t2Waiting ∧ ¬ Spec.unhealthy 203 t2Waiting ∧ ¬ Spec.unhealthy 9999 coreA := by
  unfold Spec.unhealthy
  decide +kernel

theorem witness_TxPollTransmitsAtTheCursor :
    Spec.mayPoll (started 10) ∧ Spec.ackFor (started 10) = none ∧ ¬ Spec.unhealthy 0 (started 10) ∧
    (started 10).tx.cursor ≠ (started 10).tx.unusedPoint ∧ ((started 10).slot (started 10).tx.cursor).valid = true := by
  unfold Spec.mayPoll Spec.transfers Spec.unhealthy Spec.ackFor
  decide +kernel

/-- `s` with its cursor at `c`. -/
def atCursor (c : Nat) (s : State) : State := { s with tx := { s.tx with cursor := c } }

theorem witness_TxPollIdlesOrSkips :
    (∀ c ∈ [4, 2], Spec.mayPoll (atCursor c (started 2)) ∧ Spec.ackFor (atCursor c (started 2)) = none ∧
      ¬ Spec.unhealthy 2 (atCursor c (started 2))) ∧
    (atCursor 4 (started 2)).tx.cursor = (atCursor 4 (started 2)).tx.unusedPoint ∧
    (atCursor 2 (started 2)).tx.cursor ≠ (atCursor 2 (started 2)).tx.unusedPoint ∧
    ((atCursor 2 (started 2)).slot 2).valid = false := by
  unfold Spec.mayPoll Spec.transfers Spec.unhealthy Spec.ackFor
  decide +kernel

theorem witness_TxPollRewinds :
    Spec.mayPoll t2Waiting ∧ Spec.ackFor t2Waiting = none ∧ Spec.unhealthy 204 t2Waiting := by
  unfold Spec.mayPoll Spec.transfers Spec.unhealthy Spec.ackFor
  decide +kernel

/-- The state after the slide to `a`. -/
def slid (a : Nat) (s : State) : State :=
  match slideTo a { s with ackTab := [] } with
  | .ok t => t
  | .error _ => s

/-- The slide to `a` does not stop. -/
def slides (a : Nat) (s : State) : Bool :=
  match slideTo a { s with ackTab := [] } with
  | .ok _ => true
  | .error _ => false

theorem witness_TxPollTieBreak :
    Spec.mayPoll (t3Waiting 4 0 4) ∧ Spec.ackFor (t3Waiting 4 0 4) = some 0 ∧ 0 ≤ (t3Waiting 4 0 4).w ∧
    slides 0 (t3Waiting 4 0 4) = true ∧
    ¬ Spec.terminal 0 (slid 0 (t3Waiting 4 0 4)) ∧ Spec.unhealthy 202 (slid 0 (t3Waiting 4 0 4)) ∧
    Spec.cursorFreed 0 (t3Waiting 4 0 4) := by
  unfold Spec.mayPoll Spec.transfers Spec.unhealthy Spec.ackFor Spec.terminal Spec.cursorFreed
  decide +kernel

/-- Four chunks, all four sent and acknowledged together: T10. -/
def t10Waiting : State := { started 4 with ackTab := [(peerB.toNat, 3)] }

theorem witness_TxPollEndsOnTheTerminalAck :
    Spec.mayPoll t10Waiting ∧ Spec.ackFor t10Waiting = some 3 ∧ 3 ≤ t10Waiting.w ∧ slides 3 t10Waiting = true ∧
    Spec.terminal 3 (slid 3 t10Waiting) := by
  unfold Spec.mayPoll Spec.transfers Spec.ackFor Spec.terminal
  decide +kernel

/-- Healthy and normalised; healthy with the cursor where it was, caught up or without the normalisation; unhealthy with
the cursor beyond the freed region. -/
theorem witness_TxPollSlidesThenActs :
    (∀ e ∈ [(t3Waiting 4 0 4, 0),
        ({ t3Waiting 1 3 1 with par := { Params.default with normaliseOnSlide := false } }, 3)],
      Spec.mayPoll e.1 ∧ Spec.ackFor e.1 = some e.2 ∧ e.2 ≤ e.1.w ∧ slides e.2 e.1 = true ∧
        ¬ Spec.terminal e.2 (slid e.2 e.1) ∧ ¬ Spec.unhealthy 3 (slid e.2 e.1) ∧ ¬ Spec.normalises e.2 e.1) ∧
    (Spec.mayPoll (t3Waiting 1 3 1) ∧ Spec.ackFor (t3Waiting 1 3 1) = some 3 ∧ slides 3 (t3Waiting 1 3 1) = true ∧
      ¬ Spec.terminal 3 (slid 3 (t3Waiting 1 3 1)) ∧ ¬ Spec.unhealthy 3 (slid 3 (t3Waiting 1 3 1)) ∧
      Spec.normalises 3 (t3Waiting 1 3 1)) ∧
    (Spec.mayPoll (t3Waiting 3 0 3) ∧ Spec.ackFor (t3Waiting 3 0 3) = some 0 ∧ slides 0 (t3Waiting 3 0 3) = true ∧
      ¬ Spec.terminal 0 (slid 0 (t3Waiting 3 0 3)) ∧ Spec.unhealthy 202 (slid 0 (t3Waiting 3 0 3)) ∧
      ¬ Spec.cursorFreed 0 (t3Waiting 3 0 3)) := by
  unfold Spec.mayPoll Spec.transfers Spec.unhealthy Spec.ackFor Spec.terminal Spec.normalises Spec.cursorFreed
  decide +kernel

theorem witness_RewindIsFollowedByASend :
    ∀ e ∈ [(t2Waiting, 204), (t3Waiting 4 0 4, 202)],
      1 ≤ e.1.w ∧ e.1.tx.unusedPoint ≤ e.1.w ∧ goesOn (exec (.txPoll e.2) e.1) = true ∧
      (after (exec (.txPoll e.2) e.1) e.1).resp.map Response.status = some .pollRewind := by decide +kernel

theorem witness_TxAbortReleasesTheWindow : Spec.mayPoll (started 10) ∧ Spec.mayPoll (started 2) := by
  unfold Spec.mayPoll Spec.transfers
  decide +kernel

theorem witness_TxStateFollowsTheTransitionTable :
    goesOn (exec .reset (started 10)) = true ∧ goesOn (exec .cfgCommit State.reset) = true ∧
    goesOn (exec (.txStart peerB) { coreA with src := chunks 2 }) = true ∧ goesOn (exec .txAbort (started 2)) = true ∧
    (goesOn (exec (.txPoll 4) t10Waiting) = true ∧ Spec.mayPoll t10Waiting ∧ Spec.ackFor t10Waiting = some 3 ∧
      3 ≤ t10Waiting.w ∧ Spec.terminal 3 (after (exec (.txPoll 4) t10Waiting) coreA)) ∧
    (goesOn (exec (.txPoll 0) (started 2)) = true ∧ Spec.ackFor (started 2) = none) := by
  unfold Spec.mayPoll Spec.transfers Spec.ackFor Spec.terminal
  decide +kernel

/-! ## Receiver -/

theorem witness_RxDataAcceptsTheExpectedNumber :
    ¬ Spec.full coreB.rxTab peerA coreB ∧ ¬ Spec.full (coreBExpecting 4).rxTab peerA (coreBExpecting 4) := by
  unfold Spec.full
  decide +kernel

/-- Core B with room for one peer, which is A. -/
def coreBFull : State := { coreBExpecting 2 with par := { Params.default with maxPeers := some 1 }, ackTab := [(peerA.toNat, 1)] }

theorem witness_RxDataAnswersAMismatch :
    ¬ Spec.full (coreBExpecting 4).rxTab peerA (coreBExpecting 4) ∧ 3 ≠ Spec.expectedSeq (coreBExpecting 4) peerA ∧
    ¬ Spec.full coreBFull.rxTab peerA coreBFull ∧ Spec.full coreBFull.rxTab peerC coreBFull := by
  unfold Spec.full
  decide +kernel

theorem witness_AckNumberIsOneBeforeExpected :
    ∀ s ∈ [coreB, coreBExpecting 4], Spec.expectedSeq s peerA ≤ s.w ∧ ¬ Spec.full s.rxTab peerA s ∧
      goesOn (exec (.rxData peerA peerB 0 []) s) = true ∧ goesOn (exec (.rxData peerA peerB 4 []) s) = true := by
  unfold Spec.full
  decide +kernel

theorem witness_AckTableIsPostedAndDrained : 0 ≤ coreA.w ∧ 4 ≤ coreA.w := by decide +kernel

theorem witness_RxAckPostsTheNumber :
    4 ≤ coreA.w ∧ ¬ Spec.full coreA.ackTab peerB coreA ∧ Spec.full coreBFull.ackTab peerC coreBFull := by
  unfold Spec.full
  decide +kernel

theorem witness_RxSyncRemovesTheEntry : tableWf (coreBExpecting 3).rxTab = true := by decide +kernel

/-- What DEC refuses `d` with. -/
def decError (s : State) (d : Bytes) : Option Status :=
  match decFrame s d with
  | .error e => some e.status
  | .ok _ => none

theorem witness_RxDgramDropsWhatItCannotTake :
    coreB.ctl.cfgValid = true ∧ coreB.ctl.rxEn = true ∧
    [[], [0x09], [0x01], wireBroken, wireRange, wireSelf].map (decError coreB) =
      [some .lengthError, some .formatError, some .lengthError, some .integrityError, some .rangeError,
        some .peerIdentityCollision] ∧
    decFrame coreB wireAck = .ok (.ack peerB peerA 3) ∧ frameDst (.ack peerB peerA 3) ≠ coreB.localId := by decide +kernel

theorem witness_FramesForThisCoreAreDispatched :
    coreB.ctl.cfgValid = true ∧ coreB.ctl.rxEn = true ∧ coreB.par.flagsDiffer = true ∧ peerA ≠ coreB.localId ∧
    4 ≤ coreB.w ∧ (List.replicate 1024 (0 : Byte)).length ≤ coreB.maxp ∧ 255 < 256 ^ coreB.seqb := by decide +kernel

theorem witness_FramesWithAWrongCheckFieldAreDropped :
    coreB.ctl.cfgValid = true ∧ coreB.ctl.rxEn = true ∧ coreB.par.flagsDiffer = true ∧
    ([0xa0] : Bytes).length ≤ coreB.maxp ∧
    0x33d9#16 ≠ crc16 (Spec.body coreB coreB.par.flagData peerA peerB 0 [0xa0]) ∧
    0x33d8#16 = crc16 (Spec.body coreB coreB.par.flagData peerA peerB 0 [0xa0]) ∧
    0#16 ≠ crc16 (Spec.body coreB coreB.par.flagAck peerA peerB 0 []) ∧
    0#16 ≠ crc16 (Spec.body coreB coreB.par.flagSync peerA peerB 0 []) := by decide +kernel

theorem witness_DeliveryIsInSequenceOrder :
    (goesOn (exec (.rxData peerA peerB 4 [0xa4]) (coreBExpecting 4)) = true ∧
      (after (exec (.rxData peerA peerB 4 [0xa4]) (coreBExpecting 4)) coreB).sink = [⟨peerA, [0xa4]⟩]) ∧
    (goesOn (exec (.rxData peerA peerB 3 [0xa4]) (coreBExpecting 4)) = true ∧
      (after (exec (.rxData peerA peerB 3 [0xa4]) (coreBExpecting 4)) coreB).sink = []) := by decide +kernel

/-! ## The whole machine -/

theorem witness_ErrorsWriteNothing :
    ∀ e ∈ [(Instr.txStart peerA, coreA), (.rxDgram wireBroken, coreB), (.rxData peerC peerB 0 [], coreBFull),
        (.cfgCommit, coreA)],
      goesOn (exec e.1 e.2) = true ∧
      (after (exec e.1 e.2) e.2).resp.any (fun r => isError r.status && r.status != .configurationError) = true := by
  decide +kernel

theorem witness_StateIsWrittenByItsOwnersOnly :
    goesOn (exec (.txPoll 0) (started 10)) = true ∧ (after (exec (.txPoll 0) (started 10)) coreA).tx ≠ (started 10).tx ∧
    (after (exec (.rxData peerA peerB 0 []) coreB) coreB).rxTab ≠ coreB.rxTab ∧
    (after (exec (.ackPost peerB 1) coreA) coreA).ackTab ≠ coreA.ackTab ∧
    (after (exec .rxStop coreA) coreA).ctl ≠ coreA.ctl ∧ (after (exec .reset coreA) coreA).cfg ≠ coreA.cfg ∧
    (after (exec (.txSlide 0) (started 10)) coreA).src ≠ (started 10).src ∧
    (after (exec (.ackPost peerB 5) coreA) coreA).free ≠ coreA.free := by decide +kernel

theorem witness_OneLogRecordPerDecision :
    goesOn (exec (.txPoll 0) (started 10)) = true ∧ Spec.mayPoll (started 10) ∧
    (after (exec (.txPoll 0) (started 10)) coreA).resp.map Response.value = some (.sent 0 .new) ∧
    Spec.peerOfDecision (.txPoll 0) (started 10) = some peerB ∧
    goesOn (exec (.rxDgram wireBroken) coreB) = true ∧ Spec.takesDatagram (.rxDgram wireBroken) = true ∧
    goesOn (exec (.syncSend peerB) coreA) = true := by
  unfold Spec.mayPoll Spec.transfers
  decide +kernel

theorem witness_NothingStopsWithinTheContracts :
    srcKeepsContract (started 10) = true ∧ srcKeepsContract t10Waiting = true := by decide +kernel

/-- States that meet every invariant, with a request waiting: in FILL, in DRAIN, with an acknowledgement to apply, with a
datagram, and at the start of a transfer. -/
def invariantStates : List State :=
  [{ started 10 with requests := [.command .sendRole 0x11 Fields.zero] },
    { started 2 with requests := [.command .internal 0x80 { Fields.zero with n := 3 }] },
    { t10Waiting with requests := [.command .sendRole 0x11 Fields.zero] },
    { coreBExpecting 3 with requests := [.datagram wireData] },
    { coreA with src := chunks 3, requests := [.command .host 0x10 { Fields.zero with p := peerB }] }]

theorem witness_StepKeepsEveryInvariant :
    ∀ s ∈ invariantStates, canonical s = true ∧ configLegal s = true ∧ windowInRange s = true ∧ tablesInRange s = true ∧
      fillWindowFull s = true ∧ slotsHoldTheirFrames s = true ∧ goesOn (step s) = true := by decide +kernel

theorem witness_AtMostWSlotsHoldAFrame : (started 10).ctl.cfgValid = true ∧ windowInRange (started 10) = true := by
  decide +kernel

end Sys2Proof.Tests
end

section
/-! The configuration stays legal (00 R6; 10 R28, R29; 44 R262 to R264). The development is in four layers: what a property
needs to be kept by a whole step, the operations that leave every register, what the fill loop and a poll can do to the
exhaustion flags, and the operations that write the configuration or the sender's state. -/

namespace Sys2Proof.Proofs

open Sys2Proof.Machine

variable {s t v : State}

/-! ## From operations to steps -/

/-- A property that taking a request, refusing a command and every operation keep is kept by every step: a datagram the
decoder refuses is given to RX.DGRAM all the same. -/
theorem step_preserves {P : State → Prop} (take : ∀ r rest s, P s → P (takeRequest r rest s))
    (refuse : ∀ code s, P s → P (raiseState code {} s)) (operate : ∀ i s t, P s → exec i s = .next t → P t)
    (hs : P s) (h : step s = .next t) : P t := by
  unfold step at h
  split at h
  · cases h; exact hs
  · next r rest _ =>
    have hr : P (takeRequest r rest s) := take r rest s hs
    split at h
    · exact operate _ _ _ hr h
    · cases r with
      | command line code f => cases h; exact refuse code _ hr
      | datagram d => exact operate (.rxDgram d) _ _ hr h

/-! ## Operations that leave the registers -/

/-- `t` has the parameters, the configuration, the control bits and the sender window of `s`. -/
structure SameRegisters (s t : State) : Prop where
  par : t.par = s.par
  cfg : t.cfg = s.cfg
  ctl : t.ctl = s.ctl
  tx : t.tx = s.tx

theorem SameRegisters.trans (h : SameRegisters s t) (k : SameRegisters t v) : SameRegisters s v :=
  ⟨k.par.trans h.par, k.cfg.trans h.cfg, k.ctl.trans h.ctl, k.tx.trans h.tx⟩

theorem SameRegisters.refl (s : State) : SameRegisters s s := ⟨rfl, rfl, rfl, rfl⟩

theorem SameRegisters.respond (h : SameRegisters s t) {st : Status} {x : Value} : SameRegisters s (respond st x t) :=
  ⟨h.par, h.cfg, h.ctl, h.tx⟩

theorem SameRegisters.writeLog (h : SameRegisters s t) {op : Byte} {st : Status} {info : LogInfo} {about : LogSubject} :
    SameRegisters s (writeLog op st info about t) :=
  ⟨h.par, h.cfg, h.ctl, h.tx⟩

theorem SameRegisters.raise (h : SameRegisters s t) {op : Byte} {st : Status} {info : LogInfo} {about : LogSubject} :
    SameRegisters s (raise op st info about t) :=
  ⟨h.par, h.cfg, h.ctl, h.tx⟩

theorem SameRegisters.raiseState (h : SameRegisters s t) {op : Byte} {about : LogSubject} :
    SameRegisters s (raiseState op about t) :=
  h.raise

theorem SameRegisters.emitFrame (h : SameRegisters s t) {d : Bytes} {kind : FrameKind} {impaired : Bool} :
    SameRegisters s (emitFrame d kind impaired t) :=
  ⟨h.par, h.cfg, h.ctl, h.tx⟩

theorem SameRegisters.stageFrame (h : SameRegisters s t) {flag : Byte} {src dst : PeerId} {n : Nat} {payload : Bytes} :
    SameRegisters s (stageFrame flag src dst n payload t) :=
  ⟨h.par, h.cfg, h.ctl, h.tx⟩

theorem decTrace_sameRegisters (d : Bytes) (s : State) : SameRegisters s (decTrace d s) := by
  rw [decTrace_frame]; exact ⟨rfl, rfl, rfl, rfl⟩

theorem postAck_sameRegisters (p : PeerId) (a : Nat) (s : State) : SameRegisters s (postAck p a s) :=
  ⟨noteNumber_par a s, noteNumber_cfg a s, noteNumber_ctl a s, noteNumber_tx a s⟩

theorem receiveAck_sameRegisters (src : PeerId) (ack : Nat) (s : State) : SameRegisters s (receiveAck src ack s) := by
  rcases receiveAck_cases src ack s with ⟨-, h⟩ | ⟨-, h⟩ <;> rw [h]
  · exact (SameRegisters.refl s).raise
  · exact (postAck_sameRegisters src ack s).writeLog.respond

theorem answerData_sameRegisters (result : Status) (src : PeerId) (seq e av : Nat) (s : State) :
    SameRegisters s (answerData result src seq e av s) :=
  (SameRegisters.refl s).stageFrame.emitFrame.writeLog.respond

theorem receiveData_sameRegisters (src : PeerId) (seq : Nat) (payload : Bytes) (s : State) :
    SameRegisters s (receiveData src seq payload s) := by
  unfold receiveData
  split
  · exact (SameRegisters.refl s).raise
  · extract_lets e
    split
    · have hset : SameRegisters s (setExpected src (cycInc s.n e) (deliver src payload s)) := ⟨rfl, rfl, rfl, rfl⟩
      exact hset.trans (answerData_sameRegisters _ _ _ _ _ _)
    · have hset : SameRegisters s (setExpected src e s) := ⟨rfl, rfl, rfl, rfl⟩
      exact hset.trans (answerData_sameRegisters _ _ _ _ _ _)

theorem receiveFrame_sameRegisters (x : FrameVal) (s : State) : SameRegisters s (receiveFrame x s) := by
  cases x with
  | data src _ seq payload => exact receiveData_sameRegisters src seq payload s
  | ack src _ ack => exact receiveAck_sameRegisters src ack s
  | sync src _ => exact ⟨rfl, rfl, rfl, rfl⟩

/-- Whatever a datagram holds, the receive role leaves the registers. -/
theorem receiveDatagram_sameRegisters (d : Bytes) (s : State) : SameRegisters s (receiveDatagram d s) := by
  have hd : SameRegisters s (decTrace d (loadRxbuf d s)) :=
    SameRegisters.trans (t := loadRxbuf d s) ⟨rfl, rfl, rfl, rfl⟩ (decTrace_sameRegisters d _)
  rcases receiveDatagram_cases d s with ⟨-, h⟩ | ⟨-, -, ⟨e, -, h⟩ | ⟨x, -, -, h⟩ | ⟨x, -, -, h⟩⟩ <;> rw [h]
  · exact (SameRegisters.refl s).raiseState
  · exact hd.raise
  · exact hd.raise
  · exact hd.trans (receiveFrame_sameRegisters x _)

/-- The operations that write no register: all but those that configure, control the receive role or run the sender. -/
def leavesRegisters : Instr → Bool
  | .reset | .cfgSet _ _ | .cfgCommit | .rxRun | .rxStop => false
  | .txStart _ | .txPoll _ | .txAbort | .txSlide _ => false
  | _ => true

theorem execDec_sameRegisters {d : Bytes} (h : execDec d s = .next t) : SameRegisters s t := by
  unfold execDec at h
  split at h
  · cases h; exact (SameRegisters.refl s).raiseState
  · split at h <;> cases h
    · exact (decTrace_sameRegisters d s).raise
    · exact (decTrace_sameRegisters d s).respond

theorem exec_sameRegisters {i : Instr} (hi : leavesRegisters i = true) (h : exec i s = .next t) : SameRegisters s t := by
  cases i with
  | reset | cfgSet | cfgCommit | rxRun | rxStop | txStart | txPoll | txAbort | txSlide => cases hi
  | csrRead r =>
    simp only [exec, execCsrRead] at h
    split at h <;> cases h <;> exact ⟨rfl, rfl, rfl, rfl⟩
  | syncSend d =>
    simp only [exec, execSyncSend] at h
    split_ifs at h <;> cases h
    · exact (SameRegisters.refl s).raiseState
    · exact (SameRegisters.refl s).raise
    · exact (SameRegisters.refl s).stageFrame.emitFrame.writeLog.respond
  | crcChk d =>
    simp only [exec, execCrcChk] at h
    split_ifs at h <;> cases h <;> exact ⟨rfl, rfl, rfl, rfl⟩
  | encData src dst seq payload =>
    simp only [exec, execEncData] at h
    split_ifs at h <;> cases h <;> exact ⟨rfl, rfl, rfl, rfl⟩
  | encAck src dst ack =>
    simp only [exec, execEncAck] at h
    split_ifs at h <;> cases h <;> exact ⟨rfl, rfl, rfl, rfl⟩
  | encSync src dst =>
    simp only [exec, execEncSync] at h
    split_ifs at h <;> cases h <;> exact ⟨rfl, rfl, rfl, rfl⟩
  | dec d => exact execDec_sameRegisters h
  | ackPost p a => cases h; exact (postAck_sameRegisters p a s).respond
  | rxData src dst seq payload => cases h; exact receiveData_sameRegisters src seq payload s
  | rxAck src dst ack => cases h; exact receiveAck_sameRegisters src ack s
  | rxDgram | frameData | frameAck | frameSync => cases h; exact receiveDatagram_sameRegisters _ s
  | crc16 | crcInit | crcByte | txTochk | ackDrain | rxSync => cases h; exact ⟨rfl, rfl, rfl, rfl⟩

/-! ## Operations that at most mark the source exhausted -/

/-- `t` has the configuration and the sender's state of `s`, and `exhausted` and `eosValid` are as in `s` or both set: the
fill loop meets EOS at most once, and what sets one flag sets the other (10 R28; 42 R184, R188). -/
structure MarksAtMost (s t : State) : Prop where
  par : t.par = s.par
  cfg : t.cfg = s.cfg
  ctl : t.ctl = s.ctl
  txState : t.tx.txState = s.tx.txState
  flags : (t.tx.exhausted = s.tx.exhausted ∧ t.tx.eosValid = s.tx.eosValid) ∨
    (t.tx.exhausted = true ∧ t.tx.eosValid = true)

theorem MarksAtMost.refl (s : State) : MarksAtMost s s := ⟨rfl, rfl, rfl, rfl, .inl ⟨rfl, rfl⟩⟩

/-- Writing the slot file and the cursor marks nothing. -/
theorem MarksAtMost.setSlot (h : MarksAtMost s t) {i : Nat} {x : Slot} : MarksAtMost s (setSlot i x t) :=
  ⟨h.par, h.cfg, h.ctl, h.txState, h.flags⟩

theorem MarksAtMost.unstampSlot (h : MarksAtMost s t) {i : Nat} : MarksAtMost s (unstampSlot i t) := h.setSlot

theorem MarksAtMost.setCursor (h : MarksAtMost s t) {c : Nat} : MarksAtMost s (setCursor c t) :=
  ⟨h.par, h.cfg, h.ctl, h.txState, h.flags⟩

theorem MarksAtMost.drainAcks (h : MarksAtMost s t) : MarksAtMost s (drainAcks t) :=
  ⟨h.par, h.cfg, h.ctl, h.txState, h.flags⟩

theorem MarksAtMost.respond (h : MarksAtMost s t) {st : Status} {x : Value} : MarksAtMost s (respond st x t) :=
  ⟨h.par, h.cfg, h.ctl, h.txState, h.flags⟩

theorem MarksAtMost.pollReturn (h : MarksAtMost s t) {st : Status} {x : Value} {seq : Option Nat}
    {slot : Option SlotStatus} {ack : Option Nat} : MarksAtMost s (pollReturn st x seq slot ack t) :=
  ⟨h.par, h.cfg, h.ctl, h.txState, h.flags⟩

theorem MarksAtMost.trans (h : MarksAtMost s t) (k : MarksAtMost t v) : MarksAtMost s v where
  par := k.par.trans h.par
  cfg := k.cfg.trans h.cfg
  ctl := k.ctl.trans h.ctl
  txState := k.txState.trans h.txState
  flags := by
    rcases k.flags with ⟨he, hv⟩ | hboth
    · rw [he, hv]; exact h.flags
    · exact .inr hboth

theorem SameRegisters.marksAtMost (h : SameRegisters s t) : MarksAtMost s t :=
  ⟨h.par, h.cfg, h.ctl, by rw [h.tx], .inl ⟨by rw [h.tx], by rw [h.tx]⟩⟩

/-- The fill loop leaves both flags, or sets both. -/
theorem refill_flags {is : List Nat} (h : refill is s = .ok t) :
    (t.tx.exhausted = s.tx.exhausted ∧ t.tx.eosValid = s.tx.eosValid) ∨
      (t.tx.exhausted = true ∧ t.tx.eosValid = true) := by
  induction is generalizing s with
  | nil => cases h; exact .inl ⟨rfl, rfl⟩
  | cons i is ih =>
    rw [refill_cons] at h
    split at h
    · cases h; exact .inl ⟨rfl, rfl⟩
    · split at h
      · cases h; exact .inr ⟨rfl, rfl⟩
      · split at h
        · cases h
        · exact (ih h :)

theorem refill_marksAtMost {is : List Nat} (h : refill is s = .ok t) : MarksAtMost s t :=
  have hf := refill_frame h
  ⟨hf.par, hf.cfg, hf.ctl, by rw [hf.tx], refill_flags h⟩

theorem slideTo_marksAtMost {a : Nat} (h : slideTo a s = .ok t) : MarksAtMost s t := by
  obtain ⟨t1, h1, -, rfl⟩ := slideTo_cases h
  have hfree : MarksAtMost s (freeSlots (cycRangeOpen s.n s.tx.unusedPoint a) s) :=
    ⟨rfl, rfl, rfl, rfl, .inl ⟨rfl, rfl⟩⟩
  exact (hfree.trans (refill_marksAtMost h1)).trans ⟨rfl, rfl, rfl, rfl, .inl ⟨rfl, rfl⟩⟩

theorem noteNumber_marksAtMost (a : Nat) (s : State) : MarksAtMost s (noteNumber a s) :=
  SameRegisters.marksAtMost ⟨noteNumber_par a s, noteNumber_cfg a s, noteNumber_ctl a s, noteNumber_tx a s⟩

theorem execTxSlide_marksAtMost {a : Nat} (h : execTxSlide a s = .next t) : MarksAtMost s t := by
  unfold execTxSlide at h
  split at h
  · cases h
  · next s1 h1 =>
    cases h
    exact ((noteNumber_marksAtMost a s).trans (slideTo_marksAtMost h1)).respond

/-! ### The parts of TX.POLL -/

theorem notePosted_marksAtMost (posted : Option Nat) (s : State) : MarksAtMost s (notePosted posted s) := by
  cases posted with
  | none => exact .refl s
  | some a => exact noteNumber_marksAtMost a s

theorem pollSlide_marksAtMost {ack : Option Nat} (h : pollSlide ack s = .ok t) : MarksAtMost s t := by
  cases ack with
  | none => cases h; exact .refl s
  | some a => exact slideTo_marksAtMost h

theorem rewindMarks_marksAtMost (b c : Nat) (s : State) : MarksAtMost s (rewindMarks b c s) := by
  rw [rewindMarks_frame]; exact ⟨rfl, rfl, rfl, rfl, .inl ⟨rfl, rfl⟩⟩

theorem pollRewind_marksAtMost (oldC dAck dCur : Nat) (ack : Option Nat) (s : State) :
    MarksAtMost s (pollRewind oldC dAck dCur ack s) := by
  simp only [pollRewind]
  split
  · exact (MarksAtMost.refl s).setCursor.unstampSlot.pollReturn
  · exact (rewindMarks_marksAtMost _ _ s).setCursor.unstampSlot.pollReturn

theorem normalise_marksAtMost (dAck dCur : Nat) (s : State) : MarksAtMost s (normalise dAck dCur s) := by
  unfold normalise
  split
  · exact (MarksAtMost.refl s).setCursor
  · exact .refl s

theorem transmit_marksAtMost (now : Nat) (s : State) : MarksAtMost s (transmit now s) :=
  ⟨rfl, rfl, rfl, rfl, .inl ⟨rfl, rfl⟩⟩

theorem pollSend_marksAtMost (now : Nat) (ack : Option Nat) (s : State) : MarksAtMost s (pollSend now ack s) := by
  unfold pollSend
  extract_lets k
  split
  · exact (MarksAtMost.refl s).pollReturn
  · split
    · exact (MarksAtMost.refl s).setCursor.pollReturn
    · exact (transmit_marksAtMost now s).pollReturn

/-! ## The invariant -/

/-- `configLegal` with its parts named. -/
structure ConfigLegal (s : State) : Prop where
  inForce : s.ctl.cfgValid = true →
    cfgFailure s = none ∧ s.ctl.seqMod = s.cfg.w + 1 ∧ s.ctl.seqBytes = BitVec.ofNat 8 s.seqb
  receives : s.ctl.rxEn = true → s.ctl.cfgValid = true
  sends : s.active = true → s.ctl.cfgValid = true
  marked : s.tx.exhausted = s.tx.eosValid
  drains : s.tx.txState = .drain → s.tx.exhausted = true

theorem configLegal_iff (s : State) : configLegal s = true ↔ ConfigLegal s := by
  have imp : ∀ a b : Bool, (!a || b) = true ↔ (a = true → b = true) := by decide
  constructor
  · intro h
    simp only [configLegal, Bool.and_eq_true, imp, beq_iff_eq, Option.isNone_iff_eq_none, and_assoc] at h
    obtain ⟨hforce, hrx, htx, hmark, hdrain⟩ := h
    exact ⟨hforce, hrx, htx, hmark, hdrain⟩
  · rintro ⟨hforce, hrx, htx, hmark, hdrain⟩
    simp only [configLegal, Bool.and_eq_true, imp, beq_iff_eq, Option.isNone_iff_eq_none, and_assoc]
    exact ⟨hforce, hrx, htx, hmark, hdrain⟩

/-- The four tests of CFG.COMMIT read the parameters and the configuration registers alone. -/
theorem cfgFailure_of_cfg (hp : t.par = s.par) (hc : t.cfg = s.cfg) : cfgFailure t = cfgFailure s := by
  simp only [cfgFailure, w_of_cfg hc, maxp_of_cfg hc, initSeq_of_cfg hc, hp, hc]

/-- On the configuration of a legal state only the sender is left to judge. -/
theorem ConfigLegal.of_sender (hs : ConfigLegal s) (hp : t.par = s.par) (hc : t.cfg = s.cfg) (hl : t.ctl = s.ctl)
    (sends : t.active = true → s.ctl.cfgValid = true) (marked : t.tx.exhausted = t.tx.eosValid)
    (drains : t.tx.txState = .drain → t.tx.exhausted = true) : ConfigLegal t where
  inForce := by rw [cfgFailure_of_cfg hp hc, seqb_of_cfg hc, hl, hc]; exact hs.inForce
  receives := by rw [hl]; exact hs.receives
  sends := by rw [hl]; exact sends
  marked := marked
  drains := drains

theorem ConfigLegal.of_marksAtMost (hs : ConfigLegal s) (h : MarksAtMost s t) : ConfigLegal t := by
  refine hs.of_sender h.par h.cfg h.ctl ?_ ?_ ?_
  · simp only [State.active, h.txState]; exact hs.sends
  · rcases h.flags with ⟨he, hv⟩ | ⟨he, hv⟩
    · rw [he, hv]; exact hs.marked
    · rw [he, hv]
  · intro hd
    rcases h.flags with ⟨he, -⟩ | ⟨he, -⟩
    · rw [he]; exact hs.drains (h.txState.symm.trans hd)
    · exact he

theorem ConfigLegal.of_sameRegisters (hs : ConfigLegal s) (h : SameRegisters s t) : ConfigLegal t :=
  hs.of_marksAtMost h.marksAtMost

theorem ConfigLegal.respond (hs : ConfigLegal s) {st : Status} {x : Value} : ConfigLegal (respond st x s) :=
  hs.of_sameRegisters (SameRegisters.refl s).respond

theorem ConfigLegal.raise (hs : ConfigLegal s) {op : Byte} {st : Status} {info : LogInfo} {about : LogSubject} :
    ConfigLegal (raise op st info about s) :=
  hs.of_sameRegisters (SameRegisters.refl s).raise

theorem ConfigLegal.raiseState (hs : ConfigLegal s) {op : Byte} {about : LogSubject} :
    ConfigLegal (raiseState op about s) :=
  hs.raise

theorem ConfigLegal.releaseWindow (hs : ConfigLegal s) : ConfigLegal (releaseWindow s) :=
  hs.of_marksAtMost ⟨rfl, rfl, rfl, rfl, .inl ⟨rfl, rfl⟩⟩

theorem ConfigLegal.setAborted (hs : ConfigLegal s) : ConfigLegal (setAborted s) :=
  hs.of_marksAtMost ⟨rfl, rfl, rfl, rfl, .inl ⟨rfl, rfl⟩⟩

theorem ConfigLegal.pollReturn (hs : ConfigLegal s) {st : Status} {x : Value} {seq : Option Nat}
    {slot : Option SlotStatus} {ack : Option Nat} : ConfigLegal (pollReturn st x seq slot ack s) :=
  hs.of_marksAtMost (MarksAtMost.refl s).pollReturn

/-- A configured core may change the sender's state, to DRAIN only when exhausted. -/
theorem ConfigLegal.setTxState (hs : ConfigLegal s) (hv : s.ctl.cfgValid = true) {x : TxState}
    (hx : x = .drain → s.tx.exhausted = true) : ConfigLegal (setTxState x s) :=
  hs.of_sender rfl rfl rfl (fun _ => hv) hs.marked hx

/-- An unconfigured core need only be stopped, with its flags consistent. -/
theorem configLegal_of_unconfigured (hv : s.ctl.cfgValid = false) (hr : s.ctl.rxEn = false) (ha : s.active = false)
    (marked : s.tx.exhausted = s.tx.eosValid) : ConfigLegal s where
  inForce h := by simp [hv] at h
  receives h := by simp [hr] at h
  sends h := by simp [ha] at h
  marked := marked
  drains h := by simp [State.active, h] at ha

/-! ## The sender's operations -/

theorem execTxStart_configLegal {d : PeerId} (hs : ConfigLegal s) (h : execTxStart d s = .next t) : ConfigLegal t := by
  simp only [execTxStart] at h
  split_ifs at h with hv ha hd
  · cases h; exact hs.raise
  · cases h; exact hs.raise
  · cases h; exact hs.raise
  · split at h
    · cases h
    · next s1 h1 =>
      cases h
      have hm : MarksAtMost (startRegisters d s) s1 := refill_marksAtMost h1
      have hmark : s1.tx.exhausted = s1.tx.eosValid := by
        rcases hm.flags with ⟨he, heos⟩ | ⟨he, heos⟩
        · rw [he, heos]; rfl
        · rw [he, heos]
      refine hs.of_sender hm.par hm.cfg hm.ctl (fun _ => by simpa using hv) hmark fun hdrain => ?_
      show s1.tx.exhausted = true
      by_contra hne
      simp [startState, hne] at hdrain

/-- After the slide a poll ends the transfer, or notes that the source is exhausted and then writes the window only. -/
theorem pollAfterSlide_configLegal (now oldC dAck dCur : Nat) (ack : Option Nat) (hs : ConfigLegal s)
    (hv : s.ctl.cfgValid = true) : ConfigLegal (pollAfterSlide now oldC dAck dCur ack s) := by
  unfold pollAfterSlide
  split
  · exact (hs.releaseWindow.setTxState hv (by simp)).pollReturn
  · extract_lets s1
    have hdrain : ConfigLegal s1 := by
      unfold s1
      split
      · next he => exact hs.setTxState hv fun _ => he
      · exact hs
    split
    · exact hdrain.of_marksAtMost (pollRewind_marksAtMost _ _ _ _ _)
    · exact hdrain.of_marksAtMost ((normalise_marksAtMost _ _ _).trans (pollSend_marksAtMost _ _ _))

theorem execTxPoll_configLegal {now : Nat} (hs : ConfigLegal s) (h : execTxPoll now s = .next t) : ConfigLegal t := by
  simp only [execTxPoll] at h
  split at h
  · cases h; exact hs.raise
  · next hrun =>
    split at h
    · cases h
    · next s1 h1 =>
      cases h
      have hnote : MarksAtMost s (drainAcks (notePosted (postedAck s) s)) :=
        (notePosted_marksAtMost _ s).drainAcks
      have hslide : MarksAtMost s s1 := hnote.trans (pollSlide_marksAtMost h1)
      have hv : s.ctl.cfgValid = true := by simp only [not_or, Bool.not_eq_false] at hrun; exact hrun.1
      exact pollAfterSlide_configLegal _ _ _ _ _ (hs.of_marksAtMost hslide) (by rw [hslide.ctl]; exact hv)

theorem execTxAbort_configLegal (hs : ConfigLegal s) (h : execTxAbort s = .next t) : ConfigLegal t := by
  unfold execTxAbort at h
  split at h
  · cases h; exact hs.raise
  · next hrun =>
    cases h
    have hv : s.ctl.cfgValid = true := by simp only [not_or, Bool.not_eq_false] at hrun; exact hrun.1
    exact (hs.releaseWindow.setAborted.setTxState hv (by simp)).respond

/-! ## The operations that configure and control -/

theorem cfgLocked_eq_false (s : State) : s.cfgLocked = false ↔ s.active = false ∧ s.ctl.rxEn = false := by
  simp [State.cfgLocked]

theorem writeCfg_frame {r : Nat} {x : BitVec 48} (h : writeCfg r x s = some t) :
    t.par = s.par ∧ t.ctl = s.ctl ∧ t.tx = s.tx := by
  unfold writeCfg at h
  split at h <;> cases h <;> exact ⟨rfl, rfl, rfl⟩

theorem execReset_configLegal (h : execReset s = .next t) : ConfigLegal t := by
  cases h; exact configLegal_of_unconfigured rfl rfl rfl rfl

/-- CFG.SET runs only on a stopped core and leaves it unconfigured (44 R262). -/
theorem execCfgSet_configLegal {r : Nat} {x : BitVec 48} (hs : ConfigLegal s) (h : execCfgSet r x s = .next t) :
    ConfigLegal t := by
  unfold execCfgSet at h
  split at h
  · cases h; exact hs.raise
  · next hlock =>
    obtain ⟨ha, hr⟩ := (cfgLocked_eq_false s).1 (by simpa using hlock)
    split at h
    · cases h; exact hs.raise
    · next s1 h1 =>
      obtain ⟨-, hctl, htx⟩ := writeCfg_frame h1
      cases h
      refine configLegal_of_unconfigured rfl ?_ ?_ ?_
      · simpa [hctl] using hr
      · simpa [State.active, htx] using ha
      · simpa [htx] using hs.marked

/-- CFG.COMMIT runs only on a stopped core, clears the sender, and sets CFG_VALID with the derived registers when the four
tests pass (44 R263). -/
theorem execCfgCommit_configLegal (hs : ConfigLegal s) (h : execCfgCommit s = .next t) : ConfigLegal t := by
  unfold execCfgCommit at h
  split at h
  · cases h; exact hs.raise
  · next hlock =>
    obtain ⟨-, hr⟩ := (cfgLocked_eq_false s).1 (by simpa using hlock)
    split at h
    · next hpass =>
      cases h
      exact
        { inForce := fun _ => ⟨hpass, rfl, rfl⟩
          receives := fun _ => rfl
          sends := fun _ => rfl
          marked := rfl
          drains := fun hd => by cases hd }
    · cases h; exact configLegal_of_unconfigured rfl hr rfl rfl

/-- Turning the receive role on needs a configured core, turning it off nothing. -/
theorem ConfigLegal.setRxEn (hs : ConfigLegal s) {b : Bool} (hb : b = true → s.ctl.cfgValid = true) :
    ConfigLegal (setRxEn b s) :=
  ⟨hs.inForce, hb, hs.sends, hs.marked, hs.drains⟩

theorem execRxRun_configLegal (hs : ConfigLegal s) (h : execRxRun s = .next t) : ConfigLegal t := by
  unfold execRxRun at h
  split at h
  · cases h; exact hs.raise
  · next hv =>
    cases h
    exact (hs.setRxEn fun _ => by simpa using hv).respond

theorem execRxStop_configLegal (hs : ConfigLegal s) (h : execRxStop s = .next t) : ConfigLegal t := by
  cases h
  exact (hs.setRxEn (by simp)).respond

/-! ## Every operation, every step -/

theorem exec_configLegal (i : Instr) (s t : State) (hs : ConfigLegal s) (h : exec i s = .next t) : ConfigLegal t := by
  cases i with
  | reset => exact execReset_configLegal h
  | cfgSet r x => exact execCfgSet_configLegal hs h
  | cfgCommit => exact execCfgCommit_configLegal hs h
  | rxRun => exact execRxRun_configLegal hs h
  | rxStop => exact execRxStop_configLegal hs h
  | txStart d => exact execTxStart_configLegal hs h
  | txPoll now => exact execTxPoll_configLegal hs h
  | txAbort => exact execTxAbort_configLegal hs h
  | txSlide a => exact hs.of_marksAtMost (execTxSlide_marksAtMost h)
  | _ => exact hs.of_sameRegisters (exec_sameRegisters rfl h)

/-- Settles O55: the request taken and a refused command leave the registers, and every operation keeps the invariant. -/
theorem stepKeepsConfigurationLegal : Obligations.StepKeepsConfigurationLegal := by
  unfold Obligations.StepKeepsConfigurationLegal
  intro s t hs h
  rw [configLegal_iff] at hs ⊢
  exact step_preserves (fun _ _ _ hk => hk.of_sameRegisters ⟨rfl, rfl, rfl, rfl⟩)
    (fun _ _ hk => hk.raiseState) exec_configLegal hs h

end Sys2Proof.Proofs
end

section
/-! The slots of the window and the numbers between two points of it: what is read after each write of the slot file,
what the free step and the fill loop leave in every slot (10 R21, R22; 42 R184, R187, R188), and which numbers a
cyclic range holds (00 R14). -/

namespace Sys2Proof.Proofs

open Sys2Proof.Machine

variable {s t : State}

/-! ## Cyclic ranges, 00 R14 -/

theorem cycInc_eq {n a : Nat} (ha : a < n) : cycInc n a = if a + 1 = n then 0 else a + 1 := by
  unfold cycInc
  split
  · next h => rw [h, Nat.mod_self]
  · exact Nat.mod_eq_of_lt (by omega)

/-- Numbers of the window are told apart by their distance from any one of them. -/
theorem cycDist_inj {n a x y : Nat} (ha : a < n) (hx : x < n) (hy : y < n) (h : cycDist n a x = cycDist n a y) :
    x = y := by
  rw [← cycAdd_cycDist ha hx, h, cycAdd_cycDist ha hy]

theorem cycDist_pos {n a x : Nat} (ha : a < n) (hx : x < n) (h : x ≠ a) : 0 < cycDist n a x := by
  refine Nat.pos_of_ne_zero fun h0 => h (cycDist_inj ha hx ha ?_)
  rw [h0, cycDist_self]

theorem cycDist_cycInc {n a b : Nat} (ha : a < n) (hb : b < n) :
    cycDist n (cycInc n a) (cycInc n b) = cycDist n a b := by
  have hn : 0 < n := by omega
  rw [cycDist_eq (cycInc_lt hn a) (cycInc_lt hn b), cycDist_eq ha hb, cycInc_eq ha, cycInc_eq hb]
  split_ifs <;> omega

theorem mem_cycFrom {n a k x : Nat} (ha : a < n) (hk : k ≤ n) : x ∈ cycFrom n a k ↔ x < n ∧ cycDist n a x < k := by
  induction k generalizing a with
  | zero => simp [cycFrom]
  | succ k ih =>
    have hinc : cycInc n a < n := cycInc_lt (by omega) a
    rw [cycFrom, List.mem_cons, ih hinc (by omega)]
    by_cases hx : x < n
    · rw [cycDist_eq hinc hx, cycDist_eq ha hx, cycInc_eq ha]
      split_ifs <;> omega
    · omega

theorem mem_cycRange {n a b x : Nat} (ha : a < n) : x ∈ cycRange n a b ↔ x < n ∧ cycDist n a x < cycDist n a b :=
  mem_cycFrom ha (cycDist_lt (by omega) a b).le

theorem mem_cycRangeOpen {n a b x : Nat} (ha : a < n) (hb : b < n) :
    x ∈ cycRangeOpen n a b ↔ x < n ∧ 0 < cycDist n a x ∧ cycDist n a x ≤ cycDist n a b := by
  have hinc : cycInc n a < n := cycInc_lt (by omega) a
  rw [cycRangeOpen, mem_cycRange hinc, cycDist_cycInc ha hb]
  by_cases hx : x < n
  · rw [cycDist_eq hinc hx, cycDist_eq ha hx, cycDist_eq ha hb, cycInc_eq ha]
    split_ifs <;> omega
  · omega

/-- The `k` numbers from `a` on leave out the number `k` places on. -/
theorem cycAdd_not_mem_cycFrom {n a k : Nat} (ha : a < n) (hk : k < n) : cycAdd n a k ∉ cycFrom n a k := by
  rw [mem_cycFrom ha hk.le, cycDist_eq ha (cycAdd_lt (by omega) a k)]
  have h : cycAdd n a k = if a + k < n then a + k else a + k - n := by
    unfold cycAdd
    split
    · next h => exact Nat.mod_eq_of_lt h
    · rw [Nat.mod_eq_sub_mod (by omega), Nat.mod_eq_of_lt (by omega)]
  rw [h]
  split_ifs <;> omega

/-- The `n - 1` numbers from `a` on leave out one number only. -/
theorem mem_cycFrom_pred {w a x : Nat} (ha : a < w + 1) (hx : x < w + 1) (h : x ≠ cycAdd (w + 1) a w) :
    x ∈ cycFrom (w + 1) a w := by
  have hlt : cycDist (w + 1) a x < w + 1 := cycDist_lt (by omega) a x
  have hne : cycDist (w + 1) a x ≠ w := fun he => h ((cycAdd_cycDist ha hx).symm.trans (congrArg _ he))
  exact (mem_cycFrom ha (by omega)).2 ⟨hx, by omega⟩

/-! ## Entries of a table and of the slot file -/

section
variable {α : Type}

theorem mem_of_tableFind {m : List (Nat × α)} {k : Nat} {x : α} (h : tableFind m k = some x) : (k, x) ∈ m := by
  induction m with
  | nil => cases h
  | cons e rest ih =>
    obtain ⟨k', x'⟩ := e
    unfold tableFind at h
    split at h
    · next he => cases h; subst he; exact .head _
    · exact .tail _ (ih h)

theorem tableFind_of_mem {m : List (Nat × α)} {e : Nat × α} (hm : tableWf m = true) (h : e ∈ m) :
    tableFind m e.1 = some e.2 := by
  induction m with
  | nil => cases h
  | cons a rest ih =>
    obtain ⟨k', x'⟩ := a
    obtain ⟨hlt, hrest⟩ := (tableWf_cons k' x' rest).1 hm
    rcases List.mem_cons.1 h with rfl | h
    · simp [tableFind]
    · have hne : k' ≠ e.1 := (hlt e h).ne
      simp [tableFind, hne, ih hrest h]

end

/-- A slot that holds a frame is listed. -/
theorem mem_of_slotRead_valid {m : List (Nat × Slot)} {i : Nat} (h : (slotRead m i).valid = true) :
    (i, slotRead m i) ∈ m := by
  unfold slotRead at h ⊢
  cases hf : tableFind m i with
  | none => rw [hf] at h; cases h
  | some x => exact mem_of_tableFind hf

/-- In canonical form the listed slots that hold a frame are the slots of the window that do. -/
theorem forall_valid_iff {m : List (Nat × Slot)} (hm : slotsWf m = true) (Q : Nat → Slot → Prop) :
    (∀ e ∈ m, e.2.valid = true → Q e.1 e.2) ↔ ∀ i, (slotRead m i).valid = true → Q i (slotRead m i) := by
  constructor
  · exact fun h i hv => h _ (mem_of_slotRead_valid hv) hv
  · intro h e he hv
    have hr : slotRead m e.1 = e.2 := by rw [slotRead, tableFind_of_mem ((slotsWf_iff m).1 hm).1 he]; rfl
    have hq := h e.1
    rw [hr] at hq
    exact hq hv

/-! ## Slots after a write -/

theorem slot_of_slots (h : t.tx.slots = s.tx.slots) (i : Nat) : t.slot i = s.slot i := by
  rw [State.slot, h, State.slot]

theorem slot_setSlot_same (hs : slotsWf s.tx.slots = true) (i : Nat) (x : Slot) : (setSlot i x s).slot i = x :=
  slotRead_write_same s.tx.slots i x hs

theorem slot_setSlot_other {i j : Nat} (x : Slot) (h : j ≠ i) : (setSlot i x s).slot j = s.slot j :=
  slotRead_write_other s.tx.slots x h

theorem slotsEmptyTo_beyond (w : Nat) (m : List (Nat × Slot)) {i : Nat} (h : w < i) :
    slotRead (slotsEmptyTo w m) i = slotRead m i := by
  induction m with
  | nil => rfl
  | cons a rest ih =>
    obtain ⟨k, x⟩ := a
    unfold slotsEmptyTo
    split
    · by_cases hk : k = i
      · simp [slotRead, tableFind, hk]
      · simpa [slotRead, tableFind, hk] using ih
    · have hk : k ≠ i := by omega
      split
      · simpa [slotRead, tableFind, hk] using ih
      · simpa [slotRead, tableFind, hk] using ih

/-- Releasing the window leaves no frame in [0, W] (42 R192, R201). -/
theorem slot_releaseWindow_invalid {i : Nat} (h : i ≤ s.w) : ((releaseWindow s).slot i).valid = false :=
  slotsEmptyTo_invalid s.w s.tx.slots h

theorem slot_releaseWindow_beyond {i : Nat} (h : s.w < i) : (releaseWindow s).slot i = s.slot i :=
  slotsEmptyTo_beyond s.w s.tx.slots h

theorem slotRead_foldl_slotEmpty_mem {js : List Nat} {m : List (Nat × Slot)} {i : Nat} (hm : slotsWf m = true)
    (hi : i ∈ js ∨ (slotRead m i).valid = false) : (slotRead (js.foldl slotEmpty m) i).valid = false := by
  induction js generalizing m with
  | nil => simpa using hi
  | cons j js ih =>
    refine ih (slotEmpty_wf m j hm) ?_
    have hj : slotRead (slotEmpty m j) j = slotEmptied (slotRead m j) := slotRead_write_same m j _ hm
    by_cases hij : i = j
    · subst hij; exact .inr (by rw [hj]; rfl)
    · rcases hi with hi | hi
      · exact .inl ((List.mem_cons.1 hi).resolve_left hij)
      · exact .inr (by rw [slotEmpty, slotRead_write_other m _ hij]; exact hi)

theorem slotRead_foldl_slotEmpty_other {js : List Nat} {m : List (Nat × Slot)} {i : Nat} (hi : i ∉ js) :
    slotRead (js.foldl slotEmpty m) i = slotRead m i := by
  induction js generalizing m with
  | nil => rfl
  | cons j js ih =>
    obtain ⟨hij, hjs⟩ : i ≠ j ∧ i ∉ js := by simpa using hi
    rw [List.foldl_cons, ih hjs, slotEmpty, slotRead_write_other m _ hij]

theorem slot_freeSlots_invalid {js : List Nat} {i : Nat} (hs : slotsWf s.tx.slots = true) (hi : i ∈ js) :
    ((freeSlots js s).slot i).valid = false :=
  slotRead_foldl_slotEmpty_mem hs (.inl hi)

theorem slot_freeSlots_other {js : List Nat} {i : Nat} (hi : i ∉ js) : (freeSlots js s).slot i = s.slot i :=
  slotRead_foldl_slotEmpty_other hi

/-! ## The fill loop -/

theorem built_eq_buildFrame (s : State) (fl : Byte) (p q : PeerId) (k : Nat) (c : Bytes) :
    Spec.built s fl p q k c = buildFrame fl p q k c s := rfl

/-- What a filled slot holds depends on the parameters and the configuration alone. -/
theorem isFilled_of_cfg (hp : t.par = s.par) (hc : t.cfg = s.cfg) {d : PeerId} {i : Nat} {c : Bytes} {x : Slot} :
    Spec.isFilled t d i c x ↔ Spec.isFilled s d i c x := by
  simp only [Spec.isFilled, built_eq_buildFrame, buildFrame_of_cfg hc, localId_of_cfg hc, seqb_of_cfg hc, hp]

theorem slot_fillSlot_same (i : Nat) (c : Bytes) (s : State) :
    Spec.isFilled s s.tx.dest i c ((fillSlot i c s).slot i) := by
  simp only [State.slot, fillSlot, setAcc_tx, setSlot_tx]
  rw [slotRead_write_listed s.tx.slots i _ (by simp [Slot.blank])]
  exact ⟨rfl, rfl, rfl, rfl, rfl⟩

theorem slot_fillSlot_other {i j : Nat} (c : Bytes) (h : j ≠ i) : (fillSlot i c s).slot j = s.slot j := by
  obtain ⟨x, hx⟩ := fillSlot_slots i c s
  rw [State.slot, hx, slotRead_write_other s.tx.slots x h, State.slot]

/-- Slot value `x` holds the frame of number `i` with some chunk SRC may answer. -/
def HoldsChunk (s : State) (i : Nat) (x : Slot) : Prop := ∃ c, c.length ≤ s.maxp ∧ Spec.isFilled s s.tx.dest i c x

theorem HoldsChunk.valid {i : Nat} {x : Slot} (h : HoldsChunk s i x) : x.valid = true := by
  obtain ⟨c, -, hv, -⟩ := h
  exact hv

theorem HoldsChunk.of_frame (h : SameButFill s t) {i : Nat} {x : Slot} (hx : HoldsChunk t i x) : HoldsChunk s i x := by
  obtain ⟨c, hc, hf⟩ := hx
  have hd : t.tx.dest = s.tx.dest := by rw [h.tx]
  rw [isFilled_of_cfg h.par h.cfg, hd] at hf
  exact ⟨c, maxp_of_cfg h.cfg ▸ hc, hf⟩

/-- Everything the fill loop can do to a slot: leave it, or fill it if it is one of its slots. -/
theorem refill_slot {is : List Nat} (h : refill is s = .ok t) (i : Nat) :
    t.slot i = s.slot i ∨ i ∈ is ∧ HoldsChunk s i (t.slot i) := by
  induction is generalizing s with
  | nil => cases h; exact .inl rfl
  | cons j is ih =>
    rw [refill_cons] at h
    split at h
    · cases h; exact .inl rfl
    · split at h
      · cases h; exact .inl rfl
      · next c rest _ =>
        split at h
        · cases h
        · next hc =>
          have hframe : SameButFill s (fillSlot j c { s with src := rest }) :=
            (withSrc_frame rest s).trans (fillSlot_frame j c _)
          rcases ih h with hsame | ⟨hi, hfilled⟩
          · by_cases hij : i = j
            · subst hij
              refine .inr ⟨.head _, c, Nat.not_lt.1 hc, ?_⟩
              rw [hsame]
              exact slot_fillSlot_same i c { s with src := rest }
            · exact .inl (hsame.trans (slot_fillSlot_other c hij))
          · exact .inr ⟨.tail _ hi, hfilled.of_frame hframe⟩

/-- A fill loop that does not meet EOS fills all its slots. -/
theorem refill_fills {is : List Nat} (h : refill is s = .ok t) (hx : t.tx.exhausted = false) {i : Nat} (hi : i ∈ is) :
    (t.slot i).valid = true := by
  induction is generalizing s with
  | nil => cases hi
  | cons j is ih =>
    rw [refill_cons] at h
    split at h
    · next he => cases h; rw [he] at hx; cases hx
    · split at h
      · cases h; cases hx
      · next c rest _ =>
        split at h
        · cases h
        · rcases List.mem_cons.1 hi with rfl | hi
          · rcases refill_slot h i with hsame | ⟨-, hfilled⟩
            · rw [hsame]; exact (slot_fillSlot_same i c { s with src := rest }).1
            · exact hfilled.valid
          · exact ih h hi

/-- The fill loop records as `eos` a slot it was to fill. -/
theorem refill_eos {is : List Nat} (h : refill is s = .ok t) : t.tx.eos = s.tx.eos ∨ t.tx.eos ∈ is := by
  induction is generalizing s with
  | nil => cases h; exact .inl rfl
  | cons j is ih =>
    rw [refill_cons] at h
    split at h
    · cases h; exact .inl rfl
    · split at h
      · cases h; exact .inr (.head _)
      · split at h
        · cases h
        · rcases ih h with he | he
          · exact .inl he
          · exact .inr (.tail _ he)

/-! ## The slide -/

/-- Everything a slide can do to a slot: fill it, empty it, or leave it because it is not one of those acknowledged
(42 R186 to R188). -/
theorem slideTo_slot {a : Nat} (hs : slotsWf s.tx.slots = true) (h : slideTo a s = .ok t) (i : Nat) :
    (i ∈ cycRange s.n s.tx.unusedPoint a ∧ HoldsChunk s i (t.slot i)) ∨
      (i ∈ cycRangeOpen s.n s.tx.unusedPoint a ∧ (t.slot i).valid = false) ∨
      (i ∉ cycRangeOpen s.n s.tx.unusedPoint a ∧ t.slot i = s.slot i) := by
  obtain ⟨t1, h1, -, rfl⟩ := slideTo_cases h
  rcases refill_slot h1 i with hsame | ⟨hi, hfilled⟩
  · by_cases hi : i ∈ cycRangeOpen s.n s.tx.unusedPoint a
    · exact .inr (.inl ⟨hi, (hsame ▸ slot_freeSlots_invalid hs hi :)⟩)
    · exact .inr (.inr ⟨hi, hsame.trans (slot_freeSlots_other hi)⟩)
  · exact .inl ⟨hi, hfilled.of_frame (freeSlots_frame _ s)⟩

theorem slideTo_unusedPoint {a : Nat} (h : slideTo a s = .ok t) : t.tx.unusedPoint = a := by
  obtain ⟨t1, -, -, rfl⟩ := slideTo_cases h
  rfl

theorem slideTo_dest {a : Nat} (h : slideTo a s = .ok t) : t.tx.dest = s.tx.dest := by
  obtain ⟨t1, -, hf, rfl⟩ := slideTo_cases h
  show t1.tx.dest = s.tx.dest
  rw [hf.tx]

theorem slideTo_fills {a i : Nat} (h : slideTo a s = .ok t) (hx : t.tx.exhausted = false)
    (hi : i ∈ cycRange s.n s.tx.unusedPoint a) : (t.slot i).valid = true := by
  obtain ⟨t1, h1, -, rfl⟩ := slideTo_cases h
  exact refill_fills h1 hx hi

end Sys2Proof.Proofs
end

section
/-! What the sender's operations can do, said once: TX.START (42 R182 to R185), the parts of TX.POLL (42 R190 to
R199), and the footprint each leaves on the rest of the state. -/

namespace Sys2Proof.Proofs

open Sys2Proof.Machine

variable {s t v : State}

/-! ## Marks, stamps and the cursor -/

/-- Slot value `y` holds the frame of slot value `x`; stamp and status may differ. -/
structure SameFrame (x y : Slot) : Prop where
  valid : y.valid = x.valid
  frame : y.frame = x.frame
  flen : y.flen = x.flen

theorem SameFrame.refl (x : Slot) : SameFrame x x := ⟨rfl, rfl, rfl⟩

theorem SameFrame.trans {x y z : Slot} (h : SameFrame x y) (k : SameFrame y z) : SameFrame x z :=
  ⟨k.valid.trans h.valid, k.frame.trans h.frame, k.flen.trans h.flen⟩

/-- `t` differs from `s` in the stamps and statuses of slots, the cursor and the two counters, and in what the core says
to its environment: every frame stays in its slot. -/
structure KeepsFrames (s t : State) : Prop where
  par : t.par = s.par
  cfg : t.cfg = s.cfg
  ctl : t.ctl = s.ctl
  tx : t.tx = { s.tx with
    slots := t.tx.slots, cursor := t.tx.cursor, framesSent := t.tx.framesSent, bytesSent := t.tx.bytesSent }
  rxTab : t.rxTab = s.rxTab
  ackTab : t.ackTab = s.ackTab
  requests : t.requests = s.requests
  line : t.line = s.line
  src : t.src = s.src
  free : t.free = s.free
  cursor : t.tx.cursor = s.tx.cursor ∨ t.tx.cursor < s.n
  canonical : slotsWf s.tx.slots = true → slotsWf t.tx.slots = true
  slot : slotsWf s.tx.slots = true → ∀ i, SameFrame (s.slot i) (t.slot i)

theorem KeepsFrames.refl (s : State) : KeepsFrames s s :=
  ⟨rfl, rfl, rfl, rfl, rfl, rfl, rfl, rfl, rfl, rfl, .inl rfl, id, fun _ _ => .refl _⟩

theorem KeepsFrames.trans (h : KeepsFrames s t) (k : KeepsFrames t v) : KeepsFrames s v where
  par := k.par.trans h.par
  cfg := k.cfg.trans h.cfg
  ctl := k.ctl.trans h.ctl
  tx := by rw [k.tx, h.tx]
  rxTab := k.rxTab.trans h.rxTab
  ackTab := k.ackTab.trans h.ackTab
  requests := k.requests.trans h.requests
  line := k.line.trans h.line
  src := k.src.trans h.src
  free := k.free.trans h.free
  cursor := by
    rcases k.cursor with hc | hc
    · rw [hc]; exact h.cursor
    · exact .inr (n_of_cfg h.cfg ▸ hc)
  canonical hs := k.canonical (h.canonical hs)
  slot hs i := (h.slot hs i).trans (k.slot (h.canonical hs) i)

/-- Writing back a slot with its frame moves no frame. -/
theorem setSlot_keepsFrames {i : Nat} {x : Slot} (hx : SameFrame (s.slot i) x) : KeepsFrames s (setSlot i x s) where
  par := rfl
  cfg := rfl
  ctl := rfl
  tx := rfl
  rxTab := rfl
  ackTab := rfl
  requests := rfl
  line := rfl
  src := rfl
  free := rfl
  cursor := .inl rfl
  canonical hs := slotWrite_wf _ _ _ hs
  slot hs j := by
    by_cases hij : j = i
    · subst hij; rw [slot_setSlot_same hs]; exact hx
    · rw [slot_setSlot_other x hij]; exact .refl _

theorem unstampSlot_keepsFrames (i : Nat) (s : State) : KeepsFrames s (unstampSlot i s) :=
  setSlot_keepsFrames ⟨rfl, rfl, rfl⟩

theorem setCursor_keepsFrames {c : Nat} (hc : c < s.n) : KeepsFrames s (setCursor c s) :=
  ⟨rfl, rfl, rfl, rfl, rfl, rfl, rfl, rfl, rfl, rfl, .inr hc, id, fun _ _ => .refl _⟩

theorem pollReturn_keepsFrames (st : Status) (x : Value) (seq : Option Nat) (slot : Option SlotStatus)
    (ack : Option Nat) (s : State) : KeepsFrames s (pollReturn st x seq slot ack s) :=
  ⟨rfl, rfl, rfl, rfl, rfl, rfl, rfl, rfl, rfl, rfl, .inl rfl, id, fun _ _ => .refl _⟩

theorem emitFrame_keepsFrames (d : Bytes) (kind : FrameKind) (impaired : Bool) (s : State) :
    KeepsFrames s (emitFrame d kind impaired s) :=
  ⟨rfl, rfl, rfl, rfl, rfl, rfl, rfl, rfl, rfl, rfl, .inl rfl, id, fun _ _ => .refl _⟩

/-! ## The parts of TX.POLL -/

theorem markSlot_keepsFrames (b i : Nat) (s : State) : KeepsFrames s (markSlot b s i) := by
  unfold markSlot
  split
  · exact setSlot_keepsFrames ⟨rfl, rfl, rfl⟩
  · exact .refl s

theorem rewindMarks_keepsFrames (b c : Nat) (s : State) : KeepsFrames s (rewindMarks b c s) := by
  unfold rewindMarks
  generalize cycRange s.n b c = is
  induction is generalizing s with
  | nil => exact .refl s
  | cons i is ih => exact (markSlot_keepsFrames b i s).trans (ih _)

theorem beginPoint_lt (s : State) : s.beginPoint < s.n := cycInc_lt (n_pos s) _

theorem pollRewind_keepsFrames (oldC dAck dCur : Nat) (ack : Option Nat) (s : State) :
    KeepsFrames s (pollRewind oldC dAck dCur ack s) := by
  unfold pollRewind
  extract_lets b s1
  have hmarks : KeepsFrames s s1 := by
    unfold s1
    split
    · exact .refl s
    · exact rewindMarks_keepsFrames b oldC s
  have hb : b < s1.n := n_of_cfg hmarks.cfg ▸ beginPoint_lt s
  exact ((hmarks.trans (setCursor_keepsFrames hb)).trans (unstampSlot_keepsFrames b _)).trans
    (pollReturn_keepsFrames _ _ _ _ _ _)

theorem normalise_keepsFrames (dAck dCur : Nat) (s : State) : KeepsFrames s (normalise dAck dCur s) := by
  unfold normalise
  split
  · exact setCursor_keepsFrames (beginPoint_lt s)
  · exact .refl s

theorem transmit_keepsFrames (now : Nat) (s : State) : KeepsFrames s (transmit now s) := by
  unfold transmit
  extract_lets k x s1
  have hs1 : KeepsFrames s s1 := (emitFrame_keepsFrames _ _ _ s).trans (setSlot_keepsFrames ⟨rfl, rfl, rfl⟩)
  exact hs1.trans
    ⟨rfl, rfl, rfl, rfl, rfl, rfl, rfl, rfl, rfl, rfl, .inr (cycInc_lt (n_pos s) k), id, fun _ _ => .refl _⟩

theorem pollSend_keepsFrames (now : Nat) (ack : Option Nat) (s : State) : KeepsFrames s (pollSend now ack s) := by
  unfold pollSend
  extract_lets k
  split
  · exact pollReturn_keepsFrames _ _ _ _ _ s
  · split
    · exact (setCursor_keepsFrames (cycInc_lt (n_pos s) k)).trans (pollReturn_keepsFrames _ _ _ _ _ _)
    · exact (transmit_keepsFrames now s).trans (pollReturn_keepsFrames _ _ _ _ _ _)

/-- FILL becomes DRAIN in a poll that finds the source exhausted (42 R193). -/
def noteExhaustion (s : State) : State := if s.tx.exhausted then setTxState .drain s else s

theorem noteExhaustion_eq (s : State) :
    noteExhaustion s = setTxState (if s.tx.exhausted then .drain else s.tx.txState) s := by
  unfold noteExhaustion
  split <;> rfl

/-- A terminal acknowledgement ends the transfer: the window is released and the state is DONE (42 R192). -/
def endTransfer (s : State) : State := setTxState .done (releaseWindow s)

/-- Everything a poll can do once the slide is made: end the transfer, or move no frame (42 R192 to R199). -/
theorem pollAfterSlide_cases (now oldC dAck dCur : Nat) (ack : Option Nat) (s : State) :
    KeepsFrames (endTransfer s) (pollAfterSlide now oldC dAck dCur ack s) ∨
      KeepsFrames (noteExhaustion s) (pollAfterSlide now oldC dAck dCur ack s) := by
  unfold pollAfterSlide
  split
  · exact .inl (pollReturn_keepsFrames _ _ _ _ _ _)
  · refine .inr ?_
    extract_lets s1
    split
    · exact pollRewind_keepsFrames _ _ _ _ s1
    · exact (normalise_keepsFrames _ _ s1).trans (pollSend_keepsFrames _ _ _)

/-- A poll slides to the number it found, if it found one. -/
theorem pollSlide_cases {ack : Option Nat} (h : pollSlide ack s = .ok t) :
    t = s ∨ ∃ a, ack = some a ∧ slideTo a s = .ok t := by
  cases ack with
  | none => cases h; exact .inl rfl
  | some a => exact .inr ⟨a, rfl, h⟩

/-- The state a poll slides in: the ack table drained, a number above W noted (42 R191). -/
def pollBegin (s : State) : State := drainAcks (notePosted (postedAck s) s)

theorem noteNumber_sameRegisters (a : Nat) (s : State) : SameRegisters s (noteNumber a s) :=
  ⟨noteNumber_par a s, noteNumber_cfg a s, noteNumber_ctl a s, noteNumber_tx a s⟩

theorem pollBegin_sameRegisters (s : State) : SameRegisters s (pollBegin s) := by
  unfold pollBegin
  cases postedAck s with
  | none => exact ⟨rfl, rfl, rfl, rfl⟩
  | some a =>
    obtain ⟨hpar, hcfg, hctl, htx⟩ := noteNumber_sameRegisters a s
    exact ⟨hpar, hcfg, hctl, htx⟩

/-- Everything TX.POLL can do: be refused, or slide to the number posted for `dest`, taken in [0, W], and go on. -/
theorem execTxPoll_cases {now : Nat} (h : execTxPoll now s = .next t) :
    t = refusePoll s ∨ s.ctl.cfgValid = true ∧ s.active = true ∧
      ∃ s1 dAck dCur,
        pollSlide ((postedAck s).map (numberTaken · s)) (pollBegin s) = .ok s1 ∧
        t = pollAfterSlide now s.tx.cursor dAck dCur ((postedAck s).map (numberTaken · s)) s1 := by
  simp only [execTxPoll] at h
  split at h
  · cases h; exact .inl rfl
  · next hrun =>
    simp only [not_or, Bool.not_eq_false] at hrun
    split at h
    · cases h
    · next s1 h1 => cases h; exact .inr ⟨hrun.1, hrun.2, s1, _, _, h1, rfl⟩

/-- A poll that runs on a core with property `P` leaves property `R`, if a slide into the window keeps `P`, the end of
the transfer and the change to DRAIN lead from `P` to `R`, and the moves of a poll keep `R`. -/
theorem execTxPoll_leads {P R : State → Prop} (same : ∀ s t, SameRegisters s t → P s → P t)
    (slide : ∀ a s t, a ≤ s.w → slideTo a s = .ok t → P s → P t) (finish : ∀ s, P s → R (endTransfer s))
    (drain : ∀ s, P s → R (noteExhaustion s)) (keep : ∀ s t, KeepsFrames s t → R s → R t) {now : Nat}
    (hs : s.ctl.cfgValid = true → s.active = true → P s) (h : execTxPoll now s = .next t) : t = refusePoll s ∨ R t := by
  rcases execTxPoll_cases h with rfl | ⟨hv, ha, s1, dAck, dCur, h1, rfl⟩
  · exact .inl rfl
  · have hbegin : P (pollBegin s) := same _ _ (pollBegin_sameRegisters s) (hs hv ha)
    have hslid : P s1 := by
      rcases pollSlide_cases h1 with rfl | ⟨a, ha, h1⟩
      · exact hbegin
      · obtain ⟨b, -, rfl⟩ := Option.map_eq_some_iff.1 ha
        have hb : numberTaken b s ≤ (pollBegin s).w := w_of_cfg (pollBegin_sameRegisters s).cfg ▸ numberTaken_le b s
        exact slide _ _ _ hb h1 hbegin
    refine .inr ?_
    rcases pollAfterSlide_cases now s.tx.cursor dAck dCur ((postedAck s).map (numberTaken · s)) s1 with hk | hk
    · exact keep _ _ hk (finish _ hslid)
    · exact keep _ _ hk (drain _ hslid)

/-! ## TX.START -/

/-- Everything TX.START can do: be refused with one record, or fill the window from cleared registers (42 R182). -/
theorem execTxStart_cases {d : PeerId} (h : execTxStart d s = .next t) :
    (∃ st info, t = raise 0x10 st info { peer := some d } s) ∨
      s.ctl.cfgValid = true ∧ s.active = false ∧ d ≠ s.localId ∧
        ∃ s1, refill (cycFrom s.n s.initSeq s.w) (startRegisters d s) = .ok s1 ∧
          t = respond .ok .none (startState s1) := by
  simp only [execTxStart] at h
  split_ifs at h with hv ha hd
  · cases h; exact .inl ⟨_, _, rfl⟩
  · cases h; exact .inl ⟨_, _, rfl⟩
  · cases h; exact .inl ⟨_, _, rfl⟩
  · split at h
    · cases h
    · next s1 h1 => cases h; exact .inr ⟨by simpa using hv, by simpa using ha, hd, s1, h1, rfl⟩

/-! ## TX.SLIDE and TX.ABORT -/

/-- TX.SLIDE slides to its number, taken in [0, W] (42 R186). -/
theorem execTxSlide_cases {a : Nat} (h : execTxSlide a s = .next t) :
    ∃ s1, slideTo (numberTaken a s) (noteNumber a s) = .ok s1 ∧ t = respond .ok .none s1 := by
  unfold execTxSlide at h
  split at h
  · cases h
  · next s1 h1 => cases h; exact ⟨s1, h1, rfl⟩

theorem execTxAbort_cases (h : execTxAbort s = .next t) :
    t = raiseState 0x12 {} s ∨ s.ctl.cfgValid = true ∧ s.active = true ∧
      t = respond .ok .none (setTxState .done (setAborted (releaseWindow s))) := by
  unfold execTxAbort at h
  split at h
  · cases h; exact .inl rfl
  · next hrun =>
    cases h
    simp only [not_or, Bool.not_eq_false] at hrun
    exact .inr ⟨hrun.1, hrun.2, rfl⟩

end Sys2Proof.Proofs
end

section
/-! Each piece of state is written by its owners only (10 R20, R24; 60 R308): the footprint of each kind of operation,
and the statement assembled from them. -/

namespace Sys2Proof.Proofs

open Sys2Proof.Machine

variable {s t v : State} {i : Instr}

/-! ## Answers -/

/-- `t` differs from `s` in the hidden state, the log and the response only. -/
structure SameButReply (s t : State) : Prop extends SameRegisters s t where
  rxTab : t.rxTab = s.rxTab
  ackTab : t.ackTab = s.ackTab
  requests : t.requests = s.requests
  line : t.line = s.line
  src : t.src = s.src
  txf : t.txf = s.txf
  sink : t.sink = s.sink
  free : t.free = s.free

theorem SameButReply.trans (h : SameButReply s t) (k : SameButReply t v) : SameButReply s v :=
  ⟨h.toSameRegisters.trans k.toSameRegisters, k.rxTab.trans h.rxTab, k.ackTab.trans h.ackTab,
    k.requests.trans h.requests, k.line.trans h.line, k.src.trans h.src, k.txf.trans h.txf, k.sink.trans h.sink,
    k.free.trans h.free⟩

theorem respond_sameButReply (st : Status) (x : Value) (s : State) : SameButReply s (respond st x s) :=
  ⟨⟨rfl, rfl, rfl, rfl⟩, rfl, rfl, rfl, rfl, rfl, rfl, rfl, rfl⟩

theorem writeLog_sameButReply (op : Byte) (st : Status) (info : LogInfo) (about : LogSubject) (s : State) :
    SameButReply s (writeLog op st info about s) :=
  ⟨⟨rfl, rfl, rfl, rfl⟩, rfl, rfl, rfl, rfl, rfl, rfl, rfl, rfl⟩

theorem setAcc_sameButReply (x : BitVec 16) (s : State) : SameButReply s (setAcc x s) :=
  ⟨⟨rfl, rfl, rfl, rfl⟩, rfl, rfl, rfl, rfl, rfl, rfl, rfl, rfl⟩

theorem stageFrame_sameButReply (flag : Byte) (src dst : PeerId) (n : Nat) (payload : Bytes) (s : State) :
    SameButReply s (stageFrame flag src dst n payload s) :=
  ⟨⟨rfl, rfl, rfl, rfl⟩, rfl, rfl, rfl, rfl, rfl, rfl, rfl, rfl⟩

theorem loadRxbuf_sameButReply (d : Bytes) (s : State) : SameButReply s (loadRxbuf d s) :=
  ⟨⟨rfl, rfl, rfl, rfl⟩, rfl, rfl, rfl, rfl, rfl, rfl, rfl, rfl⟩

theorem decTrace_sameButReply (d : Bytes) (s : State) : SameButReply s (decTrace d s) := by
  rw [decTrace_frame]; exact ⟨⟨rfl, rfl, rfl, rfl⟩, rfl, rfl, rfl, rfl, rfl, rfl, rfl, rfl⟩

/-- Taking in a datagram and decoding it writes the hidden state alone (20 R61; log 21). -/
theorem received_sameButReply (d : Bytes) (s : State) : SameButReply s (decTrace d (loadRxbuf d s)) :=
  (loadRxbuf_sameButReply d s).trans (decTrace_sameButReply d _)

/-- An error writes its record and its answer (60 R300). -/
theorem raise_sameButReply (op : Byte) (st : Status) (info : LogInfo) (about : LogSubject) (s : State) :
    SameButReply s (raise op st info about s) :=
  (writeLog_sameButReply op st info about s).trans (respond_sameButReply _ _ _)

theorem raiseState_sameButReply (op : Byte) (about : LogSubject) (s : State) : SameButReply s (raiseState op about s) :=
  raise_sameButReply _ _ _ _ s

theorem refusePoll_sameButReply (s : State) : SameButReply s (refusePoll s) := raise_sameButReply _ _ _ _ s

theorem returnFrame_sameButReply (flag : Byte) (src dst : PeerId) (n : Nat) (payload : Bytes) (s : State) :
    SameButReply s (returnFrame flag src dst n payload s) :=
  (stageFrame_sameButReply flag src dst n payload s).trans (respond_sameButReply _ _ _)

/-- `t` differs from `s` in what a reply writes and in the one frame `e` that TXF has more. -/
structure Emits (e : Emission) (s t : State) : Prop extends SameRegisters s t where
  rxTab : t.rxTab = s.rxTab
  ackTab : t.ackTab = s.ackTab
  requests : t.requests = s.requests
  line : t.line = s.line
  src : t.src = s.src
  txf : t.txf = s.txf ++ [e]
  free : t.free = s.free

/-- A frame staged, emitted, logged and answered for is the one thing TXF gains. -/
theorem emits_staged (st : Status) (x : Value) (op : Byte) (info : LogInfo) (about : LogSubject) (f : Bytes)
    (kind : FrameKind) (impaired : Bool) (flag : Byte) (src dst : PeerId) (n : Nat) (payload : Bytes) (s : State) :
    Emits ⟨f, kind, impaired⟩ s (respond st x (writeLog op st info about
      (emitFrame f kind impaired (stageFrame flag src dst n payload s)))) := by
  have hs := stageFrame_sameButReply flag src dst n payload s
  generalize stageFrame flag src dst n payload s = s1 at hs
  refine ⟨⟨hs.par, hs.cfg, hs.ctl, hs.tx⟩, hs.rxTab, hs.ackTab, hs.requests, hs.line, hs.src, ?_, hs.free⟩
  rw [respond_txf, writeLog_txf, emitFrame_txf, hs.txf]

/-- The operations that only answer: CSR.READ, the CRC unit, the codec and TX.TOCHK. -/
def answersOnly : Instr → Bool
  | .csrRead _ | .crc16 _ | .crcChk _ | .crcInit | .crcByte _ => true
  | .encData _ _ _ _ | .encAck _ _ _ | .encSync _ _ | .dec _ | .txTochk _ => true
  | _ => false

theorem execDec_sameButReply {d : Bytes} (h : execDec d s = .next t) : SameButReply s t := by
  unfold execDec at h
  split at h
  · cases h; exact raiseState_sameButReply _ _ s
  · split at h <;> cases h
    · exact (decTrace_sameButReply d s).trans (raise_sameButReply _ _ _ _ _)
    · exact (decTrace_sameButReply d s).trans (respond_sameButReply _ _ _)

theorem exec_sameButReply (hi : answersOnly i = true) (h : exec i s = .next t) : SameButReply s t := by
  cases i with
  | csrRead r =>
    simp only [exec, execCsrRead] at h
    split at h <;> cases h
    · exact raiseState_sameButReply _ _ s
    · exact respond_sameButReply _ _ s
  | crcChk d =>
    simp only [exec, execCrcChk] at h
    split_ifs at h <;> cases h
    · exact raiseState_sameButReply _ _ s
    · exact (setAcc_sameButReply _ s).trans (respond_sameButReply _ _ _)
  | encData src dst seq payload =>
    simp only [exec, execEncData] at h
    split_ifs at h <;> cases h
    · exact raiseState_sameButReply _ _ s
    · exact raise_sameButReply _ _ _ _ s
    · exact raise_sameButReply _ _ _ _ s
    · exact raise_sameButReply _ _ _ _ s
    · exact returnFrame_sameButReply _ _ _ _ _ s
  | encAck src dst ack =>
    simp only [exec, execEncAck] at h
    split_ifs at h <;> cases h
    · exact raiseState_sameButReply _ _ s
    · exact raise_sameButReply _ _ _ _ s
    · exact raise_sameButReply _ _ _ _ s
    · exact returnFrame_sameButReply _ _ _ _ _ s
  | encSync src dst =>
    simp only [exec, execEncSync] at h
    split_ifs at h <;> cases h
    · exact raiseState_sameButReply _ _ s
    · exact raise_sameButReply _ _ _ _ s
    · exact returnFrame_sameButReply _ _ _ _ _ s
  | dec d => exact execDec_sameButReply h
  | crc16 | crcInit | crcByte => cases h; exact (setAcc_sameButReply _ s).trans (respond_sameButReply _ _ _)
  | txTochk => cases h; exact respond_sameButReply _ _ s
  | _ => cases hi

/-! ## The receiver -/

/-- `t.txf` is `s.txf`, or has one Ack frame more (43 R227). -/
def AcksAtMost (s t : State) : Prop :=
  t.txf = s.txf ∨ ∃ e, t.txf = s.txf ++ [e] ∧ e.kind = .ack ∧ e.impaired = true

/-- What every operation of the receiver leaves: the registers, the queue and its line, the source, and TXF but for one
Ack frame. -/
structure ReceiverFootprint (s t : State) : Prop extends SameRegisters s t where
  requests : t.requests = s.requests
  line : t.line = s.line
  src : t.src = s.src
  txf : AcksAtMost s t

theorem SameButReply.receiver (h : SameButReply s t) : ReceiverFootprint s t :=
  ⟨h.toSameRegisters, h.requests, h.line, h.src, .inl h.txf⟩

/-- Preparing a datagram for the receiver does not widen its footprint. -/
theorem SameButReply.trans_receiver (h : SameButReply s t) (k : ReceiverFootprint t v) : ReceiverFootprint s v := by
  refine ⟨h.toSameRegisters.trans k.toSameRegisters, k.requests.trans h.requests, k.line.trans h.line,
    k.src.trans h.src, ?_⟩
  have htxf := k.txf
  rw [AcksAtMost, h.txf] at htxf
  exact htxf

/-- Everything RX.DATA can do: refuse a peer that finds no room, accept the number expected, or answer another
(43 R223). -/
theorem receiveData_cases (src : PeerId) (seq : Nat) (payload : Bytes) (s : State) :
    receiveData src seq payload s = raise 0x84 .tableFull (.peer src) { peer := some src, seq := some seq } s ∨
      noRoom s.rxTab src s = false ∧
        (receiveData src seq payload s =
            answerData .okData src seq (s.expected src) seq
              (setExpected src (cycInc s.n (s.expected src)) (deliver src payload s)) ∨
          receiveData src seq payload s =
            answerData .sequenceMismatch src seq (s.expected src) (cycAdd s.n (s.expected src) s.w)
              (setExpected src (s.expected src) s)) := by
  unfold receiveData
  split
  · exact .inl rfl
  · next hroom =>
    refine .inr ⟨by simpa using hroom, ?_⟩
    extract_lets e
    split
    · exact .inl rfl
    · exact .inr rfl

/-- The answer to a Data frame sends one Ack frame (43 R227). -/
theorem answerData_emits (result : Status) (src : PeerId) (seq e av : Nat) (s : State) :
    Emits ⟨buildFrame s.par.flagAck s.localId src av [] s, .ack, true⟩ s (answerData result src seq e av s) :=
  emits_staged _ _ _ _ _ _ _ _ _ _ _ _ _ s

/-- RX.DATA leaves the ack table and the counter of free values too. -/
theorem receiveData_footprint (src : PeerId) (seq : Nat) (payload : Bytes) (s : State) :
    ReceiverFootprint s (receiveData src seq payload s) ∧ (receiveData src seq payload s).ackTab = s.ackTab ∧
      (receiveData src seq payload s).free = s.free := by
  rcases receiveData_cases src seq payload s with h | ⟨-, h | h⟩ <;> rw [h]
  · have hr := raise_sameButReply 0x84 .tableFull (.peer src) { peer := some src, seq := some seq } s
    exact ⟨hr.receiver, hr.ackTab, hr.free⟩
  · have hf := answerData_emits .okData src seq (s.expected src) seq
      (setExpected src (cycInc s.n (s.expected src)) (deliver src payload s))
    exact ⟨⟨⟨hf.par, hf.cfg, hf.ctl, hf.tx⟩, hf.requests, hf.line, hf.src, .inr ⟨_, hf.txf, rfl, rfl⟩⟩, hf.ackTab,
      hf.free⟩
  · have hf := answerData_emits .sequenceMismatch src seq (s.expected src) (cycAdd s.n (s.expected src) s.w)
      (setExpected src (s.expected src) s)
    exact ⟨⟨⟨hf.par, hf.cfg, hf.ctl, hf.tx⟩, hf.requests, hf.line, hf.src, .inr ⟨_, hf.txf, rfl, rfl⟩⟩, hf.ackTab,
      hf.free⟩

theorem noteNumber_free_of_le {a : Nat} (h : a ≤ s.w) : (noteNumber a s).free = s.free := by rw [noteNumber_of_le h]

/-- RX.ACK leaves the receiver table and TXF too, and the counter of free values unless its number is above W. -/
theorem receiveAck_footprint (src : PeerId) (ack : Nat) (s : State) :
    ReceiverFootprint s (receiveAck src ack s) ∧ (receiveAck src ack s).rxTab = s.rxTab ∧
      (receiveAck src ack s).txf = s.txf ∧ (ack ≤ s.w → (receiveAck src ack s).free = s.free) := by
  have hreg := receiveAck_sameRegisters src ack s
  rcases receiveAck_cases src ack s with ⟨-, h⟩ | ⟨-, h⟩ <;> rw [h] at hreg ⊢
  · have hr := raise_sameButReply 0x85 .tableFull (.peer src) { peer := some src, ack := some ack } s
    exact ⟨hr.receiver, hr.rxTab, hr.txf, fun _ => hr.free⟩
  · exact ⟨⟨hreg, noteNumber_requests ack s, noteNumber_line ack s, noteNumber_src ack s, .inl (noteNumber_txf ack s)⟩,
      noteNumber_rxTab ack s, noteNumber_txf ack s, fun hle => noteNumber_free_of_le hle⟩

/-- RX.SYNC writes the receiver table alone. -/
theorem receiveSync_footprint (src : PeerId) (s : State) :
    ReceiverFootprint s (receiveSync src s) ∧ (receiveSync src s).ackTab = s.ackTab ∧
      (receiveSync src s).txf = s.txf ∧ (receiveSync src s).free = s.free :=
  ⟨⟨⟨rfl, rfl, rfl, rfl⟩, rfl, rfl, rfl, .inl rfl⟩, rfl, rfl, rfl⟩

/-- The number of an Ack frame that DEC accepts lies in [0, W] (41 R155). -/
theorem ack_le_of_decFrame {d : Bytes} {src dst : PeerId} {ack : Nat} (h : decFrame s d = .ok (.ack src dst ack)) :
    ack ≤ s.w := by
  unfold decFrame at h
  split at h
  · cases h
  · next kind _ =>
    simp only [decTail] at h
    split_ifs at h with hcrc hrange hself
    cases kind with
    | ack =>
      cases h
      exact Nat.not_lt.1 fun hlt => hrange ⟨by simp, hlt⟩
    | data | sync => cases h

/-- A datagram leaves the counter of free values: the decoder refuses a number above W (41 R155). -/
theorem receiveDatagram_footprint (d : Bytes) (s : State) :
    ReceiverFootprint s (receiveDatagram d s) ∧ (receiveDatagram d s).free = s.free := by
  have hd := received_sameButReply d s
  rcases receiveDatagram_cases d s with ⟨-, h⟩ | ⟨-, -, ⟨e, -, h⟩ | ⟨x, -, -, h⟩ | ⟨x, hx, -, h⟩⟩ <;> rw [h]
  · have hr := raiseState_sameButReply 0x20 {} s
    exact ⟨hr.receiver, hr.free⟩
  · have hr := hd.trans (raise_sameButReply 0x20 e.status e.info e.subject _)
    exact ⟨hr.receiver, hr.free⟩
  · have hr := hd.trans (raise_sameButReply 0x20 .addressMismatch (.address (frameSrc x) (frameDst x) (frameKind x))
      (frameSubject x) _)
    exact ⟨hr.receiver, hr.free⟩
  · cases x with
    | data src dst seq payload =>
      obtain ⟨hf, -, hfree⟩ := receiveData_footprint src seq payload (decTrace d (loadRxbuf d s))
      exact ⟨hd.trans_receiver hf, hfree.trans hd.free⟩
    | ack src dst ack =>
      obtain ⟨hf, -, -, hfree⟩ := receiveAck_footprint src ack (decTrace d (loadRxbuf d s))
      have hle : ack ≤ (decTrace d (loadRxbuf d s)).w := w_of_cfg hd.cfg ▸ ack_le_of_decFrame hx
      exact ⟨hd.trans_receiver hf, (hfree hle).trans hd.free⟩
    | sync src dst =>
      obtain ⟨hf, -, -, hfree⟩ := receiveSync_footprint src (decTrace d (loadRxbuf d s))
      exact ⟨hd.trans_receiver hf, hfree.trans hd.free⟩

/-- An operation that takes a datagram is one RX.DGRAM (30 R91, 44 R260). -/
theorem exec_of_takesDatagram (hi : Spec.takesDatagram i = true) (h : exec i s = .next t) :
    ∃ d, t = receiveDatagram d s := by
  cases i with
  | rxDgram d => cases h; exact ⟨d, rfl⟩
  | frameData | frameAck | frameSync => cases h; exact ⟨_, rfl⟩
  | _ => cases hi

/-! ## The sender -/

/-- What every operation of the sender leaves: the configuration, the receiver table, the queue and its line. -/
structure SenderFootprint (s t : State) : Prop where
  par : t.par = s.par
  cfg : t.cfg = s.cfg
  ctl : t.ctl = s.ctl
  rxTab : t.rxTab = s.rxTab
  requests : t.requests = s.requests
  line : t.line = s.line

theorem SenderFootprint.trans (h : SenderFootprint s t) (k : SenderFootprint t v) : SenderFootprint s v :=
  ⟨k.par.trans h.par, k.cfg.trans h.cfg, k.ctl.trans h.ctl, k.rxTab.trans h.rxTab, k.requests.trans h.requests,
    k.line.trans h.line⟩

theorem SameButReply.sender (h : SameButReply s t) : SenderFootprint s t :=
  ⟨h.par, h.cfg, h.ctl, h.rxTab, h.requests, h.line⟩

theorem KeepsFrames.sender (h : KeepsFrames s t) : SenderFootprint s t :=
  ⟨h.par, h.cfg, h.ctl, h.rxTab, h.requests, h.line⟩

theorem SameButFill.sender (h : SameButFill s t) : SenderFootprint s t :=
  ⟨h.par, h.cfg, h.ctl, h.rxTab, h.requests, h.line⟩

/-- A slide leaves the ack table, TXF and the counter of free values too. -/
theorem slideTo_footprint {a : Nat} (h : slideTo a s = .ok t) :
    SenderFootprint s t ∧ t.ackTab = s.ackTab ∧ t.txf = s.txf ∧ t.free = s.free := by
  obtain ⟨t1, -, hf, rfl⟩ := slideTo_cases h
  exact ⟨⟨hf.par, hf.cfg, hf.ctl, hf.rxTab, hf.requests, hf.line⟩, hf.ackTab, hf.txf, hf.free⟩

theorem noteNumber_footprint (a : Nat) (s : State) : SenderFootprint s (noteNumber a s) :=
  ⟨noteNumber_par a s, noteNumber_cfg a s, noteNumber_ctl a s, noteNumber_rxTab a s, noteNumber_requests a s,
    noteNumber_line a s⟩

/-- TX.SLIDE leaves the ack table and TXF too, and the counter of free values unless its number is above W. -/
theorem execTxSlide_footprint {a : Nat} (h : execTxSlide a s = .next t) :
    SenderFootprint s t ∧ t.ackTab = s.ackTab ∧ t.txf = s.txf ∧ (a ≤ s.w → t.free = s.free) := by
  obtain ⟨s1, h1, rfl⟩ := execTxSlide_cases h
  obtain ⟨hf, hack, htxf, hfree⟩ := slideTo_footprint h1
  refine ⟨((noteNumber_footprint a s).trans hf).trans (respond_sameButReply _ _ s1).sender, ?_, ?_, fun hle => ?_⟩
  · exact hack.trans (noteNumber_ackTab a s)
  · exact htxf.trans (noteNumber_txf a s)
  · exact hfree.trans (noteNumber_free_of_le hle)

/-- TX.START leaves TXF and the counter of free values too. -/
theorem execTxStart_footprint {d : PeerId} (h : execTxStart d s = .next t) :
    SenderFootprint s t ∧ t.txf = s.txf ∧ t.free = s.free := by
  rcases execTxStart_cases h with ⟨st, info, rfl⟩ | ⟨-, -, -, s1, h1, rfl⟩
  · have hr := raise_sameButReply 0x10 st info { peer := some d } s
    exact ⟨hr.sender, hr.txf, hr.free⟩
  · have hf := refill_frame h1
    exact ⟨⟨hf.par, hf.cfg, hf.ctl, hf.rxTab, hf.requests, hf.line⟩, hf.txf, hf.free⟩

/-- TX.ABORT leaves all but the sender. -/
theorem execTxAbort_footprint (h : execTxAbort s = .next t) :
    SenderFootprint s t ∧ t.ackTab = s.ackTab ∧ t.src = s.src ∧ t.txf = s.txf ∧ t.free = s.free := by
  rcases execTxAbort_cases h with rfl | ⟨-, -, rfl⟩
  · have hr := raiseState_sameButReply 0x12 {} s
    exact ⟨hr.sender, hr.ackTab, hr.src, hr.txf, hr.free⟩
  · exact ⟨⟨rfl, rfl, rfl, rfl, rfl, rfl⟩, rfl, rfl, rfl, rfl⟩

/-! ### TX.POLL -/

/-- `t.txf` is `s.txf`, or has one Data frame more (42 R199). -/
def SendsAtMost (s t : State) : Prop :=
  t.txf = s.txf ∨ ∃ e, t.txf = s.txf ++ [e] ∧ e.kind = .data ∧ e.impaired = true

theorem rewindMarks_txf (b c : Nat) (s : State) : (rewindMarks b c s).txf = s.txf := by rw [rewindMarks_frame]

theorem pollRewind_txf (oldC dAck dCur : Nat) (ack : Option Nat) (s : State) :
    (pollRewind oldC dAck dCur ack s).txf = s.txf := by
  simp only [pollRewind, pollReturn_txf, unstampSlot_txf, setCursor_txf]
  split
  · rfl
  · exact rewindMarks_txf _ _ s

theorem normalise_txf (dAck dCur : Nat) (s : State) : (normalise dAck dCur s).txf = s.txf := by
  unfold normalise
  split <;> rfl

theorem transmit_txf (now : Nat) (s : State) :
    (transmit now s).txf = s.txf ++
      [⟨(s.slot s.tx.cursor).frame.take (s.slot s.tx.cursor).flen.toNat, .data, true⟩] := by
  simp only [transmit, setSlot_txf, emitFrame_txf]

theorem pollSend_sends (now : Nat) (ack : Option Nat) (s : State) : SendsAtMost s (pollSend now ack s) := by
  simp only [pollSend]
  split_ifs
  · exact .inl rfl
  · exact .inl rfl
  · rw [SendsAtMost, pollReturn_txf, transmit_txf]
    exact .inr ⟨⟨_, .data, true⟩, rfl, rfl, rfl⟩

/-- A poll sends at most one Data frame, after the slide. -/
theorem pollAfterSlide_sends (now oldC dAck dCur : Nat) (ack : Option Nat) (s : State) :
    SendsAtMost s (pollAfterSlide now oldC dAck dCur ack s) := by
  unfold pollAfterSlide
  split
  · exact .inl rfl
  · extract_lets s1
    have hs1 : s1.txf = s.txf := by unfold s1; split <;> rfl
    split
    · exact .inl ((pollRewind_txf _ _ _ _ s1).trans hs1)
    · have hsend := pollSend_sends now ack (normalise dAck dCur s1)
      rwa [SendsAtMost, normalise_txf, hs1] at hsend

theorem noteExhaustion_footprint (s : State) :
    SenderFootprint s (noteExhaustion s) ∧ (noteExhaustion s).free = s.free := by
  rw [noteExhaustion_eq]
  exact ⟨⟨rfl, rfl, rfl, rfl, rfl, rfl⟩, rfl⟩

theorem pollAfterSlide_footprint (now oldC dAck dCur : Nat) (ack : Option Nat) (s : State) :
    SenderFootprint s (pollAfterSlide now oldC dAck dCur ack s) ∧
      (pollAfterSlide now oldC dAck dCur ack s).free = s.free := by
  rcases pollAfterSlide_cases now oldC dAck dCur ack s with hk | hk
  · have hend : SenderFootprint s (endTransfer s) := ⟨rfl, rfl, rfl, rfl, rfl, rfl⟩
    exact ⟨hend.trans hk.sender, hk.free⟩
  · obtain ⟨hnote, hfree⟩ := noteExhaustion_footprint s
    exact ⟨hnote.trans hk.sender, hk.free.trans hfree⟩

theorem pollBegin_footprint (s : State) :
    SenderFootprint s (pollBegin s) ∧ (pollBegin s).txf = s.txf ∧
      ((pollBegin s).free ≠ s.free → ∃ a, postedAck s = some a ∧ s.w < a) := by
  unfold pollBegin
  cases postedAck s with
  | none => exact ⟨⟨rfl, rfl, rfl, rfl, rfl, rfl⟩, rfl, absurd rfl⟩
  | some a =>
    have hn := noteNumber_footprint a s
    refine ⟨⟨hn.par, hn.cfg, hn.ctl, hn.rxTab, hn.requests, hn.line⟩, noteNumber_txf a s, fun hfree => ⟨a, rfl, ?_⟩⟩
    exact Nat.not_le.1 fun hle => hfree (noteNumber_free_of_le hle)

theorem pollSlide_footprint {ack : Option Nat} (h : pollSlide ack s = .ok t) :
    SenderFootprint s t ∧ t.txf = s.txf ∧ t.free = s.free := by
  rcases pollSlide_cases h with rfl | ⟨a, -, h⟩
  · exact ⟨⟨rfl, rfl, rfl, rfl, rfl, rfl⟩, rfl, rfl⟩
  · obtain ⟨hf, -, htxf, hfree⟩ := slideTo_footprint h
    exact ⟨hf, htxf, hfree⟩

/-- TX.POLL sends at most one Data frame, and moves the counter of free values only when it finds a number above W. -/
theorem execTxPoll_footprint {now : Nat} (h : execTxPoll now s = .next t) :
    SenderFootprint s t ∧ SendsAtMost s t ∧ (t.free ≠ s.free → ∃ a, postedAck s = some a ∧ s.w < a) := by
  rcases execTxPoll_cases h with rfl | ⟨-, -, s1, dAck, dCur, h1, rfl⟩
  · have hr := refusePoll_sameButReply s
    exact ⟨hr.sender, .inl hr.txf, absurd hr.free⟩
  · obtain ⟨hbegin, htxf0, hfree0⟩ := pollBegin_footprint s
    obtain ⟨hslide, htxf1, hfree1⟩ := pollSlide_footprint h1
    obtain ⟨hafter, hfree2⟩ := pollAfterSlide_footprint now s.tx.cursor dAck dCur _ s1
    have hsend := pollAfterSlide_sends now s.tx.cursor dAck dCur ((postedAck s).map (numberTaken · s)) s1
    rw [SendsAtMost, htxf1, htxf0] at hsend
    exact ⟨(hbegin.trans hslide).trans hafter, hsend, fun hne => hfree0 (by rwa [hfree2, hfree1] at hne)⟩

/-! ## Owners -/

/-- `i` owns the configuration (44 R262, 70 R330). -/
abbrev OwnsCfg (i : Instr) : Prop := (∃ r v, i = .cfgSet r v) ∨ i = .reset

/-- `i` owns the control bits (44 R262 to R265, 70 R330). -/
abbrev OwnsCtl (i : Instr) : Prop :=
  (∃ r v, i = .cfgSet r v) ∨ i = .cfgCommit ∨ i = .rxRun ∨ i = .rxStop ∨ i = .reset

/-- `i` owns the sender window (42; 44 R263). -/
abbrev OwnsSender (i : Instr) : Prop :=
  (∃ d, i = .txStart d) ∨ (∃ n, i = .txPoll n) ∨ (∃ a, i = .txSlide a) ∨ i = .txAbort ∨ i = .cfgCommit ∨ i = .reset

/-- `i` owns the receiver table (43 R223, R229). -/
abbrev OwnsRxTab (i : Instr) : Prop :=
  Spec.takesDatagram i = true ∨ (∃ p q n d, i = .rxData p q n d) ∨ (∃ p q, i = .rxSync p q) ∨ i = .cfgCommit ∨
    i = .reset

/-- `i` owns the ack table (20 R71, R72). -/
abbrev OwnsAckTab (i : Instr) : Prop :=
  Spec.takesDatagram i = true ∨ (∃ p q a, i = .rxAck p q a) ∨ (∃ p a, i = .ackPost p a) ∨ i = .ackDrain ∨
    (∃ n, i = .txPoll n) ∨ (∃ d, i = .txStart d) ∨ i = .cfgCommit ∨ i = .reset

/-- `i` pulls from the source (42 R181). -/
abbrev OwnsSrc (i : Instr) : Prop := (∃ d, i = .txStart d) ∨ (∃ n, i = .txPoll n) ∨ (∃ a, i = .txSlide a)

/-- `e` is the frame `i` may send: Data by TX.POLL, Ack by the receiver, Sync unimpaired by SYNC.SEND. -/
abbrev SendsFrame (i : Instr) (e : Emission) : Prop :=
  (∃ n, i = .txPoll n ∧ e.kind = .data ∧ e.impaired = true) ∨
    ((Spec.takesDatagram i = true ∨ ∃ p q n d, i = .rxData p q n d) ∧ e.kind = .ack ∧ e.impaired = true) ∨
    (∃ d, i = .syncSend d ∧ e.kind = .sync ∧ e.impaired = false)

/-- `i` meets a number above W in `s` (log 11). -/
abbrev MeetsNumberAbove (i : Instr) (s : State) : Prop :=
  (∃ a, i = .txSlide a ∧ s.w < a) ∨ (∃ p a, i = .ackPost p a ∧ s.w < a) ∨ (∃ p q a, i = .rxAck p q a ∧ s.w < a) ∨
    (∃ n a, i = .txPoll n ∧ Spec.ackFor s = some a ∧ s.w < a)

/-- What differs between `s` and `t` is owned by operation `i`; TXF grows by at most one frame of the kind `i` sends. An
update that leaves a field by definition need not name it. -/
structure OwnersOnly (i : Instr) (s t : State) : Prop where
  par : t.par = s.par := by rfl
  requests : t.requests = s.requests := by rfl
  line : t.line = s.line := by rfl
  cfg : t.cfg ≠ s.cfg → OwnsCfg i := by exact absurd rfl
  ctl : t.ctl ≠ s.ctl → OwnsCtl i := by exact absurd rfl
  tx : t.tx ≠ s.tx → OwnsSender i := by exact absurd rfl
  rxTab : t.rxTab ≠ s.rxTab → OwnsRxTab i := by exact absurd rfl
  ackTab : t.ackTab ≠ s.ackTab → OwnsAckTab i := by exact absurd rfl
  src : t.src ≠ s.src → OwnsSrc i := by exact absurd rfl
  txf : t.txf = s.txf ∨ ∃ e, t.txf = s.txf ++ [e] ∧ SendsFrame i e := by exact .inl rfl
  free : t.free ≠ s.free → MeetsNumberAbove i s := by exact absurd rfl

theorem SameButReply.ownersOnly (h : SameButReply s t) (i : Instr) : OwnersOnly i s t where
  par := h.par
  requests := h.requests
  line := h.line
  cfg := absurd h.cfg
  ctl := absurd h.ctl
  tx := absurd h.tx
  rxTab := absurd h.rxTab
  ackTab := absurd h.ackTab
  src := absurd h.src
  txf := .inl h.txf
  free := absurd h.free

/-- An operation with the receiver's footprint is left to answer for the tables, TXF and the counter. -/
theorem ReceiverFootprint.ownersOnly (h : ReceiverFootprint s t) (rxTab : t.rxTab ≠ s.rxTab → OwnsRxTab i)
    (ackTab : t.ackTab ≠ s.ackTab → OwnsAckTab i)
    (txf : t.txf = s.txf ∨ ∃ e, t.txf = s.txf ++ [e] ∧ SendsFrame i e)
    (free : t.free ≠ s.free → MeetsNumberAbove i s) : OwnersOnly i s t where
  par := h.par
  requests := h.requests
  line := h.line
  cfg := absurd h.cfg
  ctl := absurd h.ctl
  tx := absurd h.tx
  rxTab := rxTab
  ackTab := ackTab
  src := absurd h.src
  txf := txf
  free := free

/-- An operation with the sender's footprint is left to answer for the sender, the ack table, the source, TXF and the
counter. -/
theorem SenderFootprint.ownersOnly (h : SenderFootprint s t) (tx : t.tx ≠ s.tx → OwnsSender i)
    (ackTab : t.ackTab ≠ s.ackTab → OwnsAckTab i) (src : t.src ≠ s.src → OwnsSrc i)
    (txf : t.txf = s.txf ∨ ∃ e, t.txf = s.txf ++ [e] ∧ SendsFrame i e)
    (free : t.free ≠ s.free → MeetsNumberAbove i s) : OwnersOnly i s t where
  par := h.par
  requests := h.requests
  line := h.line
  cfg := absurd h.cfg
  ctl := absurd h.ctl
  tx := tx
  rxTab := absurd h.rxTab
  ackTab := ackTab
  src := src
  txf := txf
  free := free

theorem exec_ownersOnly_of_takesDatagram (hi : Spec.takesDatagram i = true) (h : exec i s = .next t) :
    OwnersOnly i s t := by
  obtain ⟨d, rfl⟩ := exec_of_takesDatagram hi h
  obtain ⟨hf, hfree⟩ := receiveDatagram_footprint d s
  refine hf.ownersOnly (fun _ => .inl hi) (fun _ => .inl hi) ?_ (absurd hfree)
  rcases hf.txf with htxf | ⟨e, htxf, he⟩
  · exact .inl htxf
  · exact .inr ⟨e, htxf, .inr (.inl ⟨.inl hi, he⟩)⟩

theorem execRxData_ownersOnly (src dst : PeerId) (seq : Nat) (payload : Bytes) (s : State) :
    OwnersOnly (.rxData src dst seq payload) s (receiveData src seq payload s) := by
  obtain ⟨hf, hack, hfree⟩ := receiveData_footprint src seq payload s
  refine hf.ownersOnly (fun _ => by simp [OwnsRxTab]) (absurd hack) ?_ (absurd hfree)
  rcases hf.txf with htxf | ⟨e, htxf, he⟩
  · exact .inl htxf
  · exact .inr ⟨e, htxf, .inr (.inl ⟨.inr ⟨src, dst, seq, payload, rfl⟩, he⟩)⟩

theorem execRxAck_ownersOnly (src dst : PeerId) (ack : Nat) (s : State) :
    OwnersOnly (.rxAck src dst ack) s (receiveAck src ack s) := by
  obtain ⟨hf, hrx, htxf, hfree⟩ := receiveAck_footprint src ack s
  refine hf.ownersOnly (absurd hrx) (fun _ => by simp [OwnsAckTab]) (.inl htxf) fun hne => ?_
  exact .inr (.inr (.inl ⟨src, dst, ack, rfl, Nat.not_le.1 fun hle => hne (hfree hle)⟩))

theorem execRxSync_ownersOnly (src dst : PeerId) (s : State) : OwnersOnly (.rxSync src dst) s (receiveSync src s) := by
  obtain ⟨hf, hack, htxf, hfree⟩ := receiveSync_footprint src s
  exact hf.ownersOnly (fun _ => by simp [OwnsRxTab]) (absurd hack) (.inl htxf) (absurd hfree)

theorem execAckPost_ownersOnly (p : PeerId) (a : Nat) (s : State) :
    OwnersOnly (.ackPost p a) s (respond .ok .none (postAck p a s)) := by
  have hf : ReceiverFootprint s (respond .ok .none (postAck p a s)) :=
    ⟨(postAck_sameRegisters p a s).respond, noteNumber_requests a s, noteNumber_line a s, noteNumber_src a s,
      .inl (noteNumber_txf a s)⟩
  refine hf.ownersOnly (absurd (noteNumber_rxTab a s)) (fun _ => by simp [OwnsAckTab]) (.inl (noteNumber_txf a s))
    fun hne => ?_
  exact .inr (.inl ⟨p, a, rfl, Nat.not_le.1 fun hle => hne (noteNumber_free_of_le hle :)⟩)

theorem execSyncSend_ownersOnly {d : PeerId} (h : execSyncSend d s = .next t) : OwnersOnly (.syncSend d) s t := by
  unfold execSyncSend at h
  split_ifs at h <;> cases h
  · exact (raiseState_sameButReply _ _ s).ownersOnly _
  · exact (raise_sameButReply _ _ _ _ s).ownersOnly _
  · have hf := emits_staged .ok .none 0x06 (.peer d) { peer := some d } (buildFrame s.par.flagSync s.localId d 0 [] s)
      .sync false s.par.flagSync s.localId d 0 [] s
    exact ⟨hf.par, hf.requests, hf.line, absurd hf.cfg, absurd hf.ctl, absurd hf.tx, absurd hf.rxTab,
      absurd hf.ackTab, absurd hf.src, .inr ⟨_, hf.txf, .inr (.inr ⟨d, rfl, rfl, rfl⟩)⟩, absurd hf.free⟩

theorem execTxPoll_ownersOnly {now : Nat} (h : execTxPoll now s = .next t) : OwnersOnly (.txPoll now) s t := by
  obtain ⟨hf, htxf, hfree⟩ := execTxPoll_footprint h
  refine hf.ownersOnly (fun _ => by simp [OwnsSender]) (fun _ => by simp [OwnsAckTab]) (fun _ => by simp [OwnsSrc]) ?_
    fun hne => ?_
  · rcases htxf with htxf | ⟨e, htxf, he⟩
    · exact .inl htxf
    · exact .inr ⟨e, htxf, .inl ⟨now, rfl, he⟩⟩
  · obtain ⟨a, ha, hlt⟩ := hfree hne
    exact .inr (.inr (.inr ⟨now, a, rfl, ha, hlt⟩))

theorem execCfgSet_ownersOnly {r : Nat} {x : BitVec 48} (h : execCfgSet r x s = .next t) :
    OwnersOnly (.cfgSet r x) s t := by
  unfold execCfgSet at h
  split at h
  · cases h; exact (raiseState_sameButReply _ _ s).ownersOnly _
  · split at h
    · cases h; exact (raiseState_sameButReply _ _ s).ownersOnly _
    · next s1 h1 =>
      have hs1 : s1 = { s with cfg := s1.cfg } := by
        unfold writeCfg at h1
        split at h1 <;> cases h1 <;> rfl
      cases h
      rw [hs1]
      exact { cfg := fun _ => .inl ⟨r, x, rfl⟩, ctl := fun _ => .inl ⟨r, x, rfl⟩ }

theorem execCfgCommit_ownersOnly (h : execCfgCommit s = .next t) : OwnersOnly .cfgCommit s t := by
  unfold execCfgCommit at h
  split at h
  · cases h; exact (raiseState_sameButReply _ _ s).ownersOnly _
  · split at h <;> cases h
    all_goals
      exact
        { ctl := fun _ => by simp [OwnsCtl]
          tx := fun _ => by simp [OwnsSender]
          rxTab := fun _ => by simp [OwnsRxTab]
          ackTab := fun _ => by simp [OwnsAckTab] }

/-- RX.RUN and RX.STOP write the control bits alone. -/
theorem setRxEn_ownersOnly (b : Bool) (st : Status) (x : Value) (s : State) (hi : i = .rxRun ∨ i = .rxStop) :
    OwnersOnly i s (respond st x (setRxEn b s)) where
  ctl _ := by rcases hi with rfl | rfl <;> simp [OwnsCtl]

theorem execRxRun_ownersOnly (h : execRxRun s = .next t) : OwnersOnly .rxRun s t := by
  unfold execRxRun at h
  split at h <;> cases h
  · exact (raiseState_sameButReply _ _ s).ownersOnly _
  · exact setRxEn_ownersOnly _ _ _ s (.inl rfl)

/-- Whatever operation is executed, what it changes is its own. -/
theorem exec_ownersOnly (h : exec i s = .next t) : OwnersOnly i s t := by
  cases i with
  | reset =>
    cases h
    exact
      { cfg := fun _ => .inr rfl
        ctl := fun _ => by simp [OwnsCtl]
        tx := fun _ => by simp [OwnsSender]
        rxTab := fun _ => by simp [OwnsRxTab]
        ackTab := fun _ => by simp [OwnsAckTab] }
  | cfgSet r x => exact execCfgSet_ownersOnly h
  | cfgCommit => exact execCfgCommit_ownersOnly h
  | rxRun => exact execRxRun_ownersOnly h
  | rxStop => cases h; exact setRxEn_ownersOnly _ _ _ s (.inr rfl)
  | syncSend d => exact execSyncSend_ownersOnly h
  | txStart d =>
    obtain ⟨hf, htxf, hfree⟩ := execTxStart_footprint h
    exact hf.ownersOnly (fun _ => by simp [OwnsSender]) (fun _ => by simp [OwnsAckTab]) (fun _ => by simp [OwnsSrc])
      (.inl htxf) (absurd hfree)
  | txPoll now => exact execTxPoll_ownersOnly h
  | txAbort =>
    obtain ⟨hf, hack, hsrc, htxf, hfree⟩ := execTxAbort_footprint h
    exact hf.ownersOnly (fun _ => by simp [OwnsSender]) (absurd hack) (absurd hsrc) (.inl htxf) (absurd hfree)
  | txSlide a =>
    obtain ⟨hf, hack, htxf, hfree⟩ := execTxSlide_footprint h
    refine hf.ownersOnly (fun _ => by simp [OwnsSender]) (absurd hack) (fun _ => by simp [OwnsSrc]) (.inl htxf)
      fun hne => ?_
    exact .inl ⟨a, rfl, Nat.not_le.1 fun hle => hne (hfree hle)⟩
  | ackPost p a => cases h; exact execAckPost_ownersOnly p a s
  | ackDrain =>
    cases h
    exact { ackTab := fun _ => by simp [OwnsAckTab] }
  | rxData src dst seq payload => cases h; exact execRxData_ownersOnly src dst seq payload s
  | rxAck src dst ack => cases h; exact execRxAck_ownersOnly src dst ack s
  | rxSync src dst => cases h; exact execRxSync_ownersOnly src dst s
  | rxDgram | frameData | frameAck | frameSync => exact exec_ownersOnly_of_takesDatagram rfl h
  | _ => exact (exec_sameButReply rfl h).ownersOnly _

/-- Settles O50: each operation by the footprint of its kind. -/
theorem stateIsWrittenByItsOwnersOnly : Obligations.StateIsWrittenByItsOwnersOnly := by
  unfold Obligations.StateIsWrittenByItsOwnersOnly
  intro i s t h
  obtain ⟨par, requests, line, cfg, ctl, tx, rxTab, ackTab, src, txf, free⟩ := exec_ownersOnly h
  exact ⟨par, requests, line, cfg, ctl, tx, rxTab, ackTab, src, txf, free⟩

end Sys2Proof.Proofs
end

section
/-! Canonical form and the two tables (10 R21, R35, R36): what an operation can do to the receiver table, to the ack
table and to the slot file, that each keeps its canonical form, and that the numbers in the tables stay in [0, W] and
the receiver table within MAX_PEERS. -/

namespace Sys2Proof.Proofs

open Sys2Proof.Machine

variable {s t v : State} {i : Instr}

/-! ## Lists in canonical form -/

section
variable {α β : Type}

theorem tableWf_iff_pairwise (m : List (Nat × α)) : tableWf m = true ↔ m.Pairwise (fun a b => a.1 < b.1) := by
  induction m with
  | nil => simp [tableWf]
  | cons e rest ih => simp [tableWf, ih]

/-- Rewriting values and dropping entries keeps the keys rising. -/
theorem tableWf_filter_map {m : List (Nat × α)} (hm : tableWf m = true) (f : α → β) (p : Nat × β → Bool) :
    tableWf ((m.map fun e => (e.1, f e.2)).filter p) = true := by
  rw [tableWf_iff_pairwise] at hm ⊢
  exact List.Pairwise.filter p (List.pairwise_map.2 hm)

theorem length_tableErase_le (m : List (Nat × α)) (k : Nat) : (tableErase m k).length ≤ m.length := by
  induction m with
  | nil => exact le_rfl
  | cons e rest ih =>
    obtain ⟨k', x⟩ := e
    unfold tableErase
    split
    · simp
    · simpa using ih

theorem length_tableInsert_le (m : List (Nat × α)) (k : Nat) (x : α) : (tableInsert m k x).length ≤ m.length + 1 := by
  induction m with
  | nil => simp [tableInsert]
  | cons e rest ih =>
    obtain ⟨k', y⟩ := e
    unfold tableInsert
    split_ifs
    · simp
    · simp
    · simpa using ih

/-- Writing an entry that is there adds none. -/
theorem length_tableInsert_of_find {m : List (Nat × α)} {k : Nat} (hm : tableWf m = true)
    (h : (tableFind m k).isSome = true) (x : α) : (tableInsert m k x).length = m.length := by
  induction m with
  | nil => cases h
  | cons e rest ih =>
    obtain ⟨k', y⟩ := e
    obtain ⟨hlt, hrest⟩ := (tableWf_cons k' y rest).1 hm
    unfold tableInsert
    split_ifs with h1 h2
    · have hnone : tableFind ((k', y) :: rest) k = none :=
        tableFind_none_of_lt _ fun e he => by
          rcases List.mem_cons.1 he with rfl | he
          · exact h1
          · exact h1.trans (hlt e he)
      rw [hnone] at h; cases h
    · rfl
    · have hr : (tableFind rest k).isSome = true := by simpa [tableFind, Ne.symm h2] using h
      simp [ih hrest hr]

end

/-! ## What an operation can do to the receiver table -/

/-- Everything that can happen to the receiver table in one operation: nothing, clearing, one entry removed, or one
entry written for a peer that finds room, with `expectedSeq` or its successor (43 R223, R229). -/
inductive RxTabStep (s t : State) : Prop
  | same (h : t.rxTab = s.rxTab)
  | cleared (h : t.rxTab = [])
  | removed (k : Nat) (h : t.rxTab = tableErase s.rxTab k)
  | written (p : PeerId) (e : Nat) (room : noRoom s.rxTab p s = false)
      (number : e = s.expected p ∨ e = cycInc s.n (s.expected p)) (h : t.rxTab = tableInsert s.rxTab p.toNat e)

theorem SameButReply.trans_rxTabStep (h : SameButReply s t) (k : RxTabStep t v) : RxTabStep s v := by
  cases k with
  | same k => exact .same (k.trans h.rxTab)
  | cleared k => exact .cleared k
  | removed key k => exact .removed key (h.rxTab ▸ k)
  | written p e room number k =>
    refine .written p e ?_ ?_ (h.rxTab ▸ k)
    · simpa only [noRoom, h.rxTab, h.par] using room
    · simpa only [State.expected, h.rxTab, n_of_cfg h.cfg, initSeq_of_cfg h.cfg] using number

theorem receiveData_rxTabStep (src : PeerId) (seq : Nat) (payload : Bytes) (s : State) :
    RxTabStep s (receiveData src seq payload s) := by
  rcases receiveData_cases src seq payload s with h | ⟨room, h | h⟩ <;> rw [h]
  · exact .same rfl
  · exact .written src _ room (.inr rfl) (answerData_emits _ _ _ _ _ _).rxTab
  · exact .written src _ room (.inl rfl) (answerData_emits _ _ _ _ _ _).rxTab

theorem receiveSync_rxTabStep (src : PeerId) (s : State) : RxTabStep s (receiveSync src s) := .removed src.toNat rfl

theorem receiveDatagram_rxTabStep (d : Bytes) (s : State) : RxTabStep s (receiveDatagram d s) := by
  have hd := received_sameButReply d s
  rcases receiveDatagram_cases d s with ⟨-, h⟩ | ⟨-, -, ⟨e, -, h⟩ | ⟨x, -, -, h⟩ | ⟨x, -, -, h⟩⟩ <;> rw [h]
  · exact .same rfl
  · exact .same hd.rxTab
  · exact .same hd.rxTab
  · refine hd.trans_rxTabStep ?_
    cases x with
    | data src dst seq payload => exact receiveData_rxTabStep src seq payload _
    | ack src dst ack =>
      obtain ⟨-, hrx, -⟩ := receiveAck_footprint src ack (decTrace d (loadRxbuf d s))
      exact .same hrx
    | sync src dst => exact receiveSync_rxTabStep src _

/-! ## The operations that configure -/

/-- Everything CFG.SET can do: be refused, or write a register of a core that is neither sending nor receiving, which is
unconfigured then (44 R262). -/
theorem execCfgSet_cases {r : Nat} {x : BitVec 48} (h : execCfgSet r x s = .next t) :
    t = raiseState 0x01 {} s ∨ s.cfgLocked = false ∧ t.ctl.cfgValid = false ∧ t.tx = s.tx ∧ t.rxTab = s.rxTab ∧
      t.ackTab = s.ackTab := by
  unfold execCfgSet at h
  split at h
  · cases h; exact .inl rfl
  · next hlock =>
    split at h
    · cases h; exact .inl rfl
    · next s1 h1 =>
      cases h
      refine .inr ⟨by simpa using hlock, rfl, ?_⟩
      unfold writeCfg at h1
      split at h1 <;> cases h1 <;> exact ⟨rfl, rfl, rfl⟩

/-- Everything CFG.COMMIT can do: be refused, or clear the protocol state of a core that is neither sending nor
receiving, configured then if the four tests pass (44 R263). -/
theorem execCfgCommit_cases (h : execCfgCommit s = .next t) :
    t = raiseState 0x02 {} s ∨ s.cfgLocked = false ∧ t.cfg = s.cfg ∧ t.tx = (clearProtocol s).tx ∧ t.rxTab = [] ∧
      t.ackTab = [] ∧ (t.ctl.cfgValid = true → cfgFailure s = none) := by
  unfold execCfgCommit at h
  split at h
  · cases h; exact .inl rfl
  · next hlock =>
    refine .inr ⟨by simpa using hlock, ?_⟩
    split at h
    · next hpass => cases h; exact ⟨rfl, rfl, rfl, rfl, fun _ => hpass⟩
    · cases h; exact ⟨rfl, rfl, rfl, rfl, fun hv => by cases hv⟩

theorem clearProtocol_slotsWf (h : slotsWf s.tx.slots = true) : slotsWf (clearProtocol s).tx.slots = true := by
  refine (slotsWf_iff _).2 ⟨tableWf_filter_map ((slotsWf_iff _).1 h).1 slotEmptied _, fun e he => ?_⟩
  simpa using (List.mem_filter.1 he).2

/-! ## What an operation can do to the tables -/

theorem exec_rxTabStep (h : exec i s = .next t) : RxTabStep s t := by
  by_cases hsame : t.rxTab = s.rxTab
  · exact .same hsame
  · rcases (exec_ownersOnly h).rxTab hsame with hi | ⟨src, dst, seq, payload, rfl⟩ | ⟨src, dst, rfl⟩ | rfl | rfl
    · obtain ⟨d, rfl⟩ := exec_of_takesDatagram hi h
      exact receiveDatagram_rxTabStep d s
    · cases h; exact receiveData_rxTabStep src seq payload s
    · cases h; exact receiveSync_rxTabStep src s
    · rcases execCfgCommit_cases h with rfl | ⟨-, -, -, hrx, -, -⟩
      · exact .same rfl
      · exact .cleared hrx
    · cases h; exact .cleared rfl

/-- Everything that can happen to the ack table in one operation: nothing, draining, or one number of [0, W] posted
(20 R71, R72). -/
inductive AckTabStep (s t : State) : Prop
  | same (h : t.ackTab = s.ackTab)
  | cleared (h : t.ackTab = [])
  | posted (k b : Nat) (number : b ≤ s.w) (h : t.ackTab = tableInsert s.ackTab k b)

theorem SameButReply.trans_ackTabStep (h : SameButReply s t) (k : AckTabStep t v) : AckTabStep s v := by
  cases k with
  | same k => exact .same (k.trans h.ackTab)
  | cleared k => exact .cleared k
  | posted key b number k => exact .posted key b (w_of_cfg h.cfg ▸ number) (h.ackTab ▸ k)

theorem postAck_ackTab (p : PeerId) (a : Nat) (s : State) :
    (postAck p a s).ackTab = tableInsert s.ackTab p.toNat (numberTaken a s) := by
  rw [postAck, setAckEntry_ackTab, noteNumber_ackTab]

theorem receiveAck_ackTabStep (src : PeerId) (ack : Nat) (s : State) : AckTabStep s (receiveAck src ack s) := by
  rcases receiveAck_cases src ack s with ⟨-, h⟩ | ⟨-, h⟩ <;> rw [h]
  · exact .same rfl
  · exact .posted src.toNat _ (numberTaken_le ack s) (postAck_ackTab src ack s)

theorem receiveDatagram_ackTabStep (d : Bytes) (s : State) : AckTabStep s (receiveDatagram d s) := by
  have hd := received_sameButReply d s
  rcases receiveDatagram_cases d s with ⟨-, h⟩ | ⟨-, -, ⟨e, -, h⟩ | ⟨x, -, -, h⟩ | ⟨x, -, -, h⟩⟩ <;> rw [h]
  · exact .same rfl
  · exact .same hd.ackTab
  · exact .same hd.ackTab
  · refine hd.trans_ackTabStep ?_
    cases x with
    | data src dst seq payload =>
      obtain ⟨-, hack, -⟩ := receiveData_footprint src seq payload (decTrace d (loadRxbuf d s))
      exact .same hack
    | ack src dst ack => exact receiveAck_ackTabStep src ack _
    | sync src dst => exact .same rfl

theorem execTxStart_ackTabStep {d : PeerId} (h : execTxStart d s = .next t) : AckTabStep s t := by
  rcases execTxStart_cases h with ⟨st, info, rfl⟩ | ⟨-, -, -, s1, h1, rfl⟩
  · exact .same rfl
  · exact .cleared (refill_frame h1).ackTab

/-- A poll that runs leaves the ack table empty (42 R191). -/
theorem execTxPoll_ackTabStep {now : Nat} (h : execTxPoll now s = .next t) : AckTabStep s t := by
  have hp : t = refusePoll s ∨ t.ackTab = [] := by
    rcases execTxPoll_cases h with rfl | ⟨-, -, s1, dAck, dCur, h1, rfl⟩
    · exact .inl rfl
    · have hs1 : s1.ackTab = [] := by
        rcases pollSlide_cases h1 with rfl | ⟨a, -, h1⟩
        · rfl
        · obtain ⟨-, hack, -⟩ := slideTo_footprint h1
          exact hack
      refine .inr ?_
      rcases pollAfterSlide_cases now s.tx.cursor dAck dCur ((postedAck s).map (numberTaken · s)) s1 with hk | hk
      · exact hk.ackTab.trans hs1
      · rw [noteExhaustion_eq] at hk; exact hk.ackTab.trans hs1
  rcases hp with rfl | hp
  · exact .same rfl
  · exact .cleared hp

theorem exec_ackTabStep (h : exec i s = .next t) : AckTabStep s t := by
  by_cases hsame : t.ackTab = s.ackTab
  · exact .same hsame
  · rcases (exec_ownersOnly h).ackTab hsame with
      hi | ⟨src, dst, ack, rfl⟩ | ⟨p, a, rfl⟩ | rfl | ⟨now, rfl⟩ | ⟨d, rfl⟩ | rfl | rfl
    · obtain ⟨d, rfl⟩ := exec_of_takesDatagram hi h
      exact receiveDatagram_ackTabStep d s
    · cases h; exact receiveAck_ackTabStep src ack s
    · cases h; exact .posted p.toNat _ (numberTaken_le a s) (postAck_ackTab p a s)
    · cases h; exact .cleared rfl
    · exact execTxPoll_ackTabStep h
    · exact execTxStart_ackTabStep h
    · rcases execCfgCommit_cases h with rfl | ⟨-, -, -, -, hack, -⟩
      · exact .same rfl
      · exact .cleared hack
    · cases h; exact .cleared rfl

/-! ## Canonical form -/

theorem RxTabStep.wf (k : RxTabStep s t) (h : tableWf s.rxTab = true) : tableWf t.rxTab = true := by
  cases k with
  | same k => rw [k]; exact h
  | cleared k => rw [k]; rfl
  | removed key k => rw [k]; exact tableErase_wf _ _ h
  | written p e _ _ k => rw [k]; exact tableInsert_wf _ _ _ h

theorem AckTabStep.wf (k : AckTabStep s t) (h : tableWf s.ackTab = true) : tableWf t.ackTab = true := by
  cases k with
  | same k => rw [k]; exact h
  | cleared k => rw [k]; rfl
  | posted key b _ k => rw [k]; exact tableInsert_wf _ _ _ h

theorem execTxStart_slotsWf {d : PeerId} (hs : slotsWf s.tx.slots = true) (h : execTxStart d s = .next t) :
    slotsWf t.tx.slots = true := by
  rcases execTxStart_cases h with ⟨st, info, rfl⟩ | ⟨-, -, -, s1, h1, rfl⟩
  · exact hs
  · have hcleared : slotsWf (startRegisters d s).tx.slots = true := slotsEmptyTo_wf s.w s.tx.slots hs
    have hfilled : slotsWf s1.tx.slots = true := refill_slotsWf hcleared h1
    exact hfilled

theorem execTxPoll_slotsWf {now : Nat} (hs : slotsWf s.tx.slots = true) (h : execTxPoll now s = .next t) :
    slotsWf t.tx.slots = true := by
  have hp : t = refusePoll s ∨ slotsWf t.tx.slots = true := by
    refine execTxPoll_leads (P := fun s => slotsWf s.tx.slots = true) (R := fun s => slotsWf s.tx.slots = true)
      ?_ ?_ ?_ ?_ ?_ (fun _ _ => hs) h
    · exact fun s t hst h => by rw [hst.tx]; exact h
    · exact fun a s t _ hslide h => slideTo_slotsWf h hslide
    · exact fun s h => slotsEmptyTo_wf s.w s.tx.slots h
    · exact fun s h => by rw [noteExhaustion_eq]; exact h
    · exact fun s t hk h => hk.canonical h
  rcases hp with rfl | hp
  · exact hs
  · exact hp

theorem execTxSlide_slotsWf {a : Nat} (hs : slotsWf s.tx.slots = true) (h : execTxSlide a s = .next t) :
    slotsWf t.tx.slots = true := by
  obtain ⟨s1, h1, rfl⟩ := execTxSlide_cases h
  have hslid : slotsWf s1.tx.slots = true := slideTo_slotsWf (by rw [noteNumber_tx]; exact hs) h1
  exact hslid

theorem exec_slotsWf (hs : slotsWf s.tx.slots = true) (h : exec i s = .next t) : slotsWf t.tx.slots = true := by
  by_cases hsame : t.tx = s.tx
  · rw [hsame]; exact hs
  · rcases (exec_ownersOnly h).tx hsame with ⟨d, rfl⟩ | ⟨now, rfl⟩ | ⟨a, rfl⟩ | rfl | rfl | rfl
    · exact execTxStart_slotsWf hs h
    · exact execTxPoll_slotsWf hs h
    · exact execTxSlide_slotsWf hs h
    · rcases execTxAbort_cases h with rfl | ⟨-, -, rfl⟩
      · exact hs
      · exact slotsEmptyTo_wf s.w s.tx.slots hs
    · rcases execCfgCommit_cases h with rfl | ⟨-, -, htx, -⟩
      · exact hs
      · rw [htx]; exact clearProtocol_slotsWf hs
    · cases h; rfl

theorem canonical_iff (s : State) :
    canonical s = true ↔ slotsWf s.tx.slots = true ∧ tableWf s.rxTab = true ∧ tableWf s.ackTab = true := by
  simp [canonical, and_assoc]

theorem exec_canonical (i : Instr) (s t : State) (hs : canonical s = true) (h : exec i s = .next t) :
    canonical t = true := by
  obtain ⟨hslots, hrx, hack⟩ := (canonical_iff s).1 hs
  exact (canonical_iff t).2 ⟨exec_slotsWf hslots h, (exec_rxTabStep h).wf hrx, (exec_ackTabStep h).wf hack⟩

/-- Settles O54: slot file and tables, each by what an operation can do to it. -/
theorem stepKeepsCanonicalForm : Obligations.StepKeepsCanonicalForm := by
  unfold Obligations.StepKeepsCanonicalForm
  intro s t hs h
  exact step_preserves (fun _ _ _ hk => hk) (fun _ _ hk => hk) exec_canonical hs h

/-! ## The tables in range -/

/-- The four tests of CFG.COMMIT, as bounds (44 R263). -/
theorem cfgFailure_eq_none (s : State) :
    cfgFailure s = none ↔
      (1 ≤ s.w ∧ s.w ≤ s.par.wMax) ∧ (1 ≤ s.maxp ∧ s.maxp ≤ 4096) ∧ s.initSeq ≤ 254 ∧ s.initSeq ≤ s.w := by
  unfold cfgFailure
  split_ifs <;> simp_all

theorem ConfigLegal.initSeq_le (hs : ConfigLegal s) (hv : s.ctl.cfgValid = true) : s.initSeq ≤ s.w := by
  obtain ⟨-, -, -, hinit⟩ := (cfgFailure_eq_none s).1 (hs.inForce hv).1
  exact hinit

theorem ConfigLegal.maxp_le (hs : ConfigLegal s) (hv : s.ctl.cfgValid = true) : s.maxp ≤ 4096 := by
  obtain ⟨-, ⟨-, hmaxp⟩, -⟩ := (cfgFailure_eq_none s).1 (hs.inForce hv).1
  exact hmaxp

/-- A core that is configured after an operation has kept its configuration, and was configured before or has both
tables empty. -/
theorem configured_after (h : exec i s = .next t) (hv : t.ctl.cfgValid = true) :
    t.cfg = s.cfg ∧ (s.ctl.cfgValid = true ∨ t.rxTab = [] ∧ t.ackTab = []) := by
  have hown := exec_ownersOnly h
  constructor
  · by_contra hne
    rcases hown.cfg hne with ⟨r, x, rfl⟩ | rfl
    · rcases execCfgSet_cases h with rfl | ⟨-, hoff, -⟩
      · exact hne rfl
      · rw [hoff] at hv; cases hv
    · cases h; cases hv
  · by_cases hsame : t.ctl = s.ctl
    · exact .inl (hsame ▸ hv)
    · rcases hown.ctl hsame with ⟨r, x, rfl⟩ | rfl | rfl | rfl | rfl
      · rcases execCfgSet_cases h with rfl | ⟨-, hoff, -⟩
        · exact .inl hv
        · rw [hoff] at hv; cases hv
      · rcases execCfgCommit_cases h with rfl | ⟨-, -, -, hrx, hack, -⟩
        · exact .inl hv
        · exact .inr ⟨hrx, hack⟩
      · simp only [exec, execRxRun] at h
        split at h <;> cases h <;> exact .inl hv
      · cases h; exact .inl hv
      · cases h; cases hv

/-- `tablesInRange` with its parts named. -/
structure TablesInRange (s : State) : Prop where
  rxTab : s.ctl.cfgValid = true → ∀ e ∈ s.rxTab, e.2 ≤ s.w
  ackTab : s.ctl.cfgValid = true → ∀ e ∈ s.ackTab, e.2 ≤ s.w
  room : ∀ c, s.par.maxPeers = some c → s.rxTab.length ≤ c

theorem tablesInRange_iff (s : State) : tablesInRange s = true ↔ TablesInRange s := by
  have hparts : TablesInRange s ↔
      (s.ctl.cfgValid = true → (∀ e ∈ s.rxTab, e.2 ≤ s.w) ∧ ∀ e ∈ s.ackTab, e.2 ≤ s.w) ∧
        ∀ c, s.par.maxPeers = some c → s.rxTab.length ≤ c :=
    ⟨fun ⟨hrx, hack, hroom⟩ => ⟨fun hv => ⟨hrx hv, hack hv⟩, hroom⟩,
      fun ⟨hnumbers, hroom⟩ => ⟨fun hv => (hnumbers hv).1, fun hv => (hnumbers hv).2, hroom⟩⟩
  rw [hparts, tablesInRange, Bool.and_eq_true]
  refine and_congr ?_ ?_
  · cases s.ctl.cfgValid <;> simp
  · cases s.par.maxPeers <;> simp

/-- A number expected of a peer lies in [0, W]. -/
theorem expected_le (hinit : s.initSeq ≤ s.w) (hs : ∀ e ∈ s.rxTab, e.2 ≤ s.w) (p : PeerId) : s.expected p ≤ s.w := by
  unfold State.expected
  cases hf : tableFind s.rxTab p.toNat with
  | none => exact hinit
  | some e => exact hs _ (mem_of_tableFind hf)

theorem RxTabStep.numbers (k : RxTabStep s t) (hinit : s.initSeq ≤ s.w) (hs : ∀ e ∈ s.rxTab, e.2 ≤ s.w) :
    ∀ e ∈ t.rxTab, e.2 ≤ s.w := by
  cases k with
  | same k => rw [k]; exact hs
  | cleared k => rw [k]; exact fun e he => by cases he
  | removed key k => rw [k]; exact fun e he => hs e (mem_tableErase he)
  | written p x _ number k =>
    have hx : x ≤ s.w := by
      rcases number with rfl | rfl
      · exact expected_le hinit hs p
      · exact Nat.lt_succ_iff.1 (cycInc_lt (n_pos s) _)
    rw [k]
    intro e he
    rcases mem_tableInsert he with rfl | he
    · exact hx
    · exact hs e he

theorem AckTabStep.numbers (k : AckTabStep s t) (hs : ∀ e ∈ s.ackTab, e.2 ≤ s.w) : ∀ e ∈ t.ackTab, e.2 ≤ s.w := by
  cases k with
  | same k => rw [k]; exact hs
  | cleared k => rw [k]; exact fun e he => by cases he
  | posted key b number k =>
    rw [k]
    intro e he
    rcases mem_tableInsert he with rfl | he
    · exact number
    · exact hs e he

/-- A new entry needs room (60 R301). -/
theorem RxTabStep.room (k : RxTabStep s t) (hwf : tableWf s.rxTab = true) {c : Nat} (hc : s.par.maxPeers = some c)
    (hs : s.rxTab.length ≤ c) : t.rxTab.length ≤ c := by
  cases k with
  | same k => rw [k]; exact hs
  | cleared k => rw [k]; exact Nat.zero_le c
  | removed key k => rw [k]; exact (length_tableErase_le _ _).trans hs
  | written p x room _ k =>
    rw [k]
    by_cases hf : (tableFind s.rxTab p.toNat).isSome = true
    · rw [length_tableInsert_of_find hwf hf]; exact hs
    · have hne : c ≠ s.rxTab.length := by
        rintro rfl
        simp [noRoom, hc] at room
        exact hf room
      have hle := length_tableInsert_le s.rxTab p.toNat x
      omega

theorem exec_tablesInRange (hwf : tableWf s.rxTab = true) (hl : ConfigLegal s) (hs : TablesInRange s)
    (h : exec i s = .next t) : TablesInRange t where
  rxTab hv := by
    obtain ⟨hcfg, hbefore | ⟨hnil, -⟩⟩ := configured_after h hv
    · rw [w_of_cfg hcfg]
      exact (exec_rxTabStep h).numbers (hl.initSeq_le hbefore) (hs.rxTab hbefore)
    · rw [hnil]; exact fun e he => by cases he
  ackTab hv := by
    obtain ⟨hcfg, hbefore | ⟨-, hnil⟩⟩ := configured_after h hv
    · rw [w_of_cfg hcfg]
      exact (exec_ackTabStep h).numbers (hs.ackTab hbefore)
    · rw [hnil]; exact fun e he => by cases he
  room c hc := by
    rw [(exec_ownersOnly h).par] at hc
    exact (exec_rxTabStep h).room hwf hc (hs.room c hc)

/-- What O57 needs of a state besides its own claim: canonical form and a legal configuration. -/
def TablesSound (s : State) : Prop := canonical s = true ∧ ConfigLegal s ∧ TablesInRange s

theorem TablesSound.same (hs : TablesSound s) (hreg : SameRegisters s t) (hrx : t.rxTab = s.rxTab)
    (hack : t.ackTab = s.ackTab) : TablesSound t := by
  obtain ⟨hc, hl, ht⟩ := hs
  refine ⟨?_, hl.of_sameRegisters hreg, ?_⟩
  · rw [canonical_iff, hreg.tx, hrx, hack]; exact (canonical_iff s).1 hc
  · exact ⟨by rw [hreg.ctl, hrx, w_of_cfg hreg.cfg]; exact ht.rxTab,
      by rw [hreg.ctl, hack, w_of_cfg hreg.cfg]; exact ht.ackTab, by rw [hreg.par, hrx]; exact ht.room⟩

/-- Settles O57: what an operation writes to a table is a number of [0, W], for a peer that finds room. -/
theorem stepKeepsTheTablesInRange : Obligations.StepKeepsTheTablesInRange := by
  unfold Obligations.StepKeepsTheTablesInRange
  intro s t hc hl hs h
  rw [configLegal_iff] at hl
  rw [tablesInRange_iff] at hs ⊢
  have ⟨_, _, ht⟩ : TablesSound t := by
    refine step_preserves (fun r rest s hk => ?_) (fun code s hk => ?_) (fun i s t hk hexec => ?_)
      (show TablesSound s from ⟨hc, hl, hs⟩) h
    · exact hk.same ⟨rfl, rfl, rfl, rfl⟩ rfl rfl
    · exact hk.same ⟨rfl, rfl, rfl, rfl⟩ rfl rfl
    · obtain ⟨hc, hl, hs⟩ := hk
      obtain ⟨-, hrx, -⟩ := (canonical_iff s).1 hc
      exact ⟨exec_canonical i s t hc hexec, exec_configLegal i s t hl hexec, exec_tablesInRange hrx hl hs hexec⟩
  exact ht

end Sys2Proof.Proofs
end

section
/-! The sender's window in range (10 R26, R27, R30, R32): what each operation of the sender leaves of it, the step
lemma, and that at most W slots hold a frame. -/

namespace Sys2Proof.Proofs

open Sys2Proof.Machine

variable {s t v : State} {i : Instr}

/-! ## The invariant -/

/-- The indices lie in [0, W], and so do the slots that hold a frame, of which the one at `unusedPoint` is none. -/
structure WindowInRange (s : State) : Prop where
  unused : s.tx.unusedPoint ≤ s.w
  cursor : s.tx.cursor ≤ s.w
  eos : s.tx.eos ≤ s.w
  slot : ∀ i, (s.slot i).valid = true → i ≤ s.w ∧ i ≠ s.tx.unusedPoint

theorem windowInRange_iff_listed (s : State) :
    windowInRange s = true ↔ (s.ctl.cfgValid = true → s.tx.unusedPoint ≤ s.w ∧ s.tx.cursor ≤ s.w ∧ s.tx.eos ≤ s.w ∧
      ∀ e ∈ s.tx.slots, e.2.valid = true → e.1 ≤ s.w ∧ e.1 ≠ s.tx.unusedPoint) := by
  have hslot : ∀ e : Nat × Slot, (!e.2.valid || (decide (e.1 ≤ s.w) && e.1 != s.tx.unusedPoint)) = true ↔
      (e.2.valid = true → e.1 ≤ s.w ∧ e.1 ≠ s.tx.unusedPoint) := fun e => by cases e.2.valid <;> simp
  unfold windowInRange
  cases s.ctl.cfgValid <;> simp [hslot, and_assoc]

/-- Whatever the form of the slot file, a window in range is one slot by slot. -/
theorem windowInRange_slots (hv : s.ctl.cfgValid = true) (h : windowInRange s = true) : WindowInRange s := by
  obtain ⟨hunused, hcursor, heos, hslots⟩ := (windowInRange_iff_listed s).1 h hv
  exact ⟨hunused, hcursor, heos, fun i hi => hslots _ (mem_of_slotRead_valid hi) hi⟩

theorem windowInRange_iff (hs : slotsWf s.tx.slots = true) :
    windowInRange s = true ↔ (s.ctl.cfgValid = true → WindowInRange s) := by
  refine ⟨fun h hv => windowInRange_slots hv h, fun h => (windowInRange_iff_listed s).2 fun hv => ?_⟩
  obtain ⟨hunused, hcursor, heos, hslot⟩ := h hv
  exact ⟨hunused, hcursor, heos,
    (forall_valid_iff hs fun i _ => i ≤ s.w ∧ i ≠ s.tx.unusedPoint).2 hslot⟩

/-! ## What keeps the window in range -/

/-- The window is a matter of the configuration and the sender alone. -/
theorem WindowInRange.of_tx (hs : WindowInRange s) (hc : t.cfg = s.cfg) (htx : t.tx = s.tx) : WindowInRange t := by
  have hw : t.w = s.w := w_of_cfg hc
  have hslot : ∀ i, t.slot i = s.slot i := slot_of_slots (by rw [htx])
  exact ⟨by rw [hw, htx]; exact hs.unused, by rw [hw, htx]; exact hs.cursor, by rw [hw, htx]; exact hs.eos,
    fun i hi => by rw [hw, htx]; exact hs.slot i (hslot i ▸ hi)⟩

theorem WindowInRange.setTxState (hs : WindowInRange s) (x : TxState) : WindowInRange (setTxState x s) :=
  ⟨hs.unused, hs.cursor, hs.eos, hs.slot⟩

theorem WindowInRange.noteExhaustion (hs : WindowInRange s) : WindowInRange (noteExhaustion s) := by
  rw [noteExhaustion_eq]; exact hs.setTxState _

theorem WindowInRange.releaseWindow (hs : WindowInRange s) : WindowInRange (releaseWindow s) := by
  refine ⟨hs.unused, hs.cursor, hs.eos, fun i hi => ?_⟩
  by_cases hle : i ≤ s.w
  · rw [slot_releaseWindow_invalid hle] at hi; cases hi
  · rw [slot_releaseWindow_beyond (Nat.not_le.1 hle)] at hi; exact hs.slot i hi

theorem WindowInRange.endTransfer (hs : WindowInRange s) : WindowInRange (endTransfer s) :=
  hs.releaseWindow.setTxState _

theorem WindowInRange.keepsFrames (hs : WindowInRange s) (hwf : slotsWf s.tx.slots = true) (hk : KeepsFrames s t) :
    WindowInRange t := by
  have hw : t.w = s.w := w_of_cfg hk.cfg
  have hunused : t.tx.unusedPoint = s.tx.unusedPoint := by rw [hk.tx]
  have heos : t.tx.eos = s.tx.eos := by rw [hk.tx]
  refine ⟨by rw [hunused, hw]; exact hs.unused, ?_, by rw [heos, hw]; exact hs.eos, fun i hi => ?_⟩
  · rcases hk.cursor with hc | hc
    · rw [hc, hw]; exact hs.cursor
    · rw [hw]; exact Nat.lt_succ_iff.1 hc
  · rw [(hk.slot hwf i).valid] at hi
    rw [hunused, hw]; exact hs.slot i hi

/-- Filling numbers of the window other than `unusedPoint` keeps the window in range. -/
theorem WindowInRange.refill (hs : WindowInRange s) {is : List Nat} (h : refill is s = .ok t)
    (his : ∀ i ∈ is, i ≤ s.w ∧ i ≠ s.tx.unusedPoint) : WindowInRange t := by
  have hf := refill_frame h
  have hw : t.w = s.w := w_of_cfg hf.cfg
  have hunused : t.tx.unusedPoint = s.tx.unusedPoint := by rw [hf.tx]
  have hcursor : t.tx.cursor = s.tx.cursor := by rw [hf.tx]
  refine ⟨by rw [hunused, hw]; exact hs.unused, by rw [hcursor, hw]; exact hs.cursor, ?_, fun i hi => ?_⟩
  · rw [hw]
    rcases refill_eos h with he | he
    · rw [he]; exact hs.eos
    · exact (his _ he).1
  · rw [hunused, hw]
    rcases refill_slot h i with hsame | ⟨hi, -⟩
    · exact hs.slot i (hsame ▸ hi)
    · exact his i hi

/-- After a slide to `a` no frame stands at `a`: it was freed, or `a` is the old `unusedPoint` (42 R187, 10 R32 (c)). -/
theorem WindowInRange.slideTo (hs : WindowInRange s) (hwf : slotsWf s.tx.slots = true) {a : Nat} (ha : a ≤ s.w)
    (h : slideTo a s = .ok t) : WindowInRange t := by
  have hu : s.tx.unusedPoint < s.n := Nat.lt_succ_iff.2 hs.unused
  have han : a < s.n := Nat.lt_succ_iff.2 ha
  have hslots := slideTo_slot hwf h
  obtain ⟨t1, h1, hf, rfl⟩ := slideTo_cases h
  have hw : t1.w = s.w := w_of_cfg hf.cfg
  have hcursor : t1.tx.cursor = s.tx.cursor := by rw [hf.tx]
  refine ⟨ha.trans_eq hw.symm, (hcursor ▸ hs.cursor).trans_eq hw.symm, ?_, fun i hi => ?_⟩
  · refine Nat.le_trans ?_ hw.ge
    show t1.tx.eos ≤ s.w
    rcases refill_eos h1 with he | he
    · rw [he]; exact hs.eos
    · exact Nat.lt_succ_iff.1 ((mem_cycRange hu).1 he).1
  · show i ≤ t1.w ∧ i ≠ a
    rw [hw]
    rcases hslots i with ⟨hin, -⟩ | ⟨-, hempty⟩ | ⟨hout, hsame⟩
    · obtain ⟨hlt, hdist⟩ := (mem_cycRange hu).1 hin
      exact ⟨Nat.lt_succ_iff.1 hlt, fun he => by rw [he] at hdist; exact lt_irrefl _ hdist⟩
    · rw [hempty] at hi; cases hi
    · obtain ⟨hle, hne⟩ := hs.slot i (hsame ▸ hi)
      refine ⟨hle, fun he => hout ?_⟩
      subst he
      exact (mem_cycRangeOpen hu han).2 ⟨han, cycDist_pos hu han hne, le_rfl⟩

/-! ## TX.START -/

/-- TX.START begins with no frame in any slot (42 R183). -/
theorem slot_startRegisters_invalid (hs : WindowInRange s) (d : PeerId) (i : Nat) :
    ((startRegisters d s).slot i).valid = false := by
  show ((releaseWindow s).slot i).valid = false
  by_cases hle : i ≤ s.w
  · exact slot_releaseWindow_invalid hle
  · rw [slot_releaseWindow_beyond (Nat.not_le.1 hle)]
    exact Bool.eq_false_iff.2 fun hi => hle (hs.slot i hi).1

theorem startRegisters_windowInRange (hs : WindowInRange s) (hinit : s.initSeq ≤ s.w) (d : PeerId) :
    WindowInRange (startRegisters d s) where
  unused := Nat.lt_succ_iff.1 (cycAdd_lt (n_pos s) _ _)
  cursor := hinit
  eos := Nat.zero_le _
  slot i hi := by rw [slot_startRegisters_invalid hs d i] at hi; cases hi

/-- TX.START fills numbers of the window, and not the one it puts `unusedPoint` at (42 R183, R184). -/
theorem start_range (hinit : s.initSeq ≤ s.w) :
    ∀ i ∈ cycFrom s.n s.initSeq s.w, i ≤ s.w ∧ i ≠ cycAdd s.n s.initSeq s.w := by
  have hlt : s.initSeq < s.n := Nat.lt_succ_iff.2 hinit
  refine fun i hi => ⟨Nat.lt_succ_iff.1 ((mem_cycFrom hlt (Nat.le_succ _)).1 hi).1, ?_⟩
  rintro rfl
  exact cycAdd_not_mem_cycFrom hlt (Nat.lt_succ_self _) hi

theorem startState_windowInRange (hs : WindowInRange s) (hinit : s.initSeq ≤ s.w) {d : PeerId}
    (h : refill (cycFrom s.n s.initSeq s.w) (startRegisters d s) = .ok t) : WindowInRange (startState t) :=
  have ht : WindowInRange t := (startRegisters_windowInRange hs hinit d).refill h (start_range hinit)
  ⟨ht.unused, ht.cursor, ht.eos, ht.slot⟩

theorem clearProtocol_slot_invalid (s : State) (i : Nat) : ((clearProtocol s).slot i).valid = false := by
  refine Bool.eq_false_iff.2 fun hi => ?_
  obtain ⟨e, -, he⟩ := List.mem_map.1 (List.mem_filter.1 (mem_of_slotRead_valid hi)).1
  have hslot : slotEmptied e.2 = (clearProtocol s).slot i := congrArg Prod.snd he
  rw [← hslot] at hi
  cases hi

/-! ## Every operation, every step -/

/-- What a poll needs of the window and hands on: canonical form and the range. -/
def WindowSound (s : State) : Prop := slotsWf s.tx.slots = true ∧ WindowInRange s

theorem execTxPoll_windowInRange {now : Nat} (hwf : slotsWf s.tx.slots = true)
    (hs : s.ctl.cfgValid = true → WindowInRange s) (hv : t.ctl.cfgValid = true) (h : execTxPoll now s = .next t) :
    WindowInRange t := by
  have hp : t = refusePoll s ∨ WindowSound t := by
    refine execTxPoll_leads (P := WindowSound) (R := WindowSound) ?_ ?_ ?_ ?_ ?_ (fun hv _ => ⟨hwf, hs hv⟩) h
    · exact fun s t hst ⟨hwf, hs⟩ => ⟨by rw [hst.tx]; exact hwf, hs.of_tx hst.cfg hst.tx⟩
    · exact fun a s t ha hslide ⟨hwf, hs⟩ => ⟨slideTo_slotsWf hwf hslide, hs.slideTo hwf ha hslide⟩
    · exact fun s ⟨hwf, hs⟩ => ⟨slotsEmptyTo_wf s.w s.tx.slots hwf, hs.endTransfer⟩
    · exact fun s ⟨hwf, hs⟩ => ⟨by rw [noteExhaustion_eq]; exact hwf, hs.noteExhaustion⟩
    · exact fun s t hk ⟨hwf, hs⟩ => ⟨hk.canonical hwf, hs.keepsFrames hwf hk⟩
  rcases hp with rfl | ⟨-, hp⟩
  · exact (hs hv).of_tx rfl rfl
  · exact hp

theorem execTxSlide_windowInRange {a : Nat} (hwf : slotsWf s.tx.slots = true)
    (hs : s.ctl.cfgValid = true → WindowInRange s) (hv : t.ctl.cfgValid = true) (h : execTxSlide a s = .next t) :
    WindowInRange t := by
  rw [(execTxSlide_marksAtMost h).ctl] at hv
  obtain ⟨s1, h1, rfl⟩ := execTxSlide_cases h
  have hn : WindowInRange (noteNumber a s) := (hs hv).of_tx (noteNumber_cfg a s) (noteNumber_tx a s)
  have ha : numberTaken a s ≤ (noteNumber a s).w := w_of_cfg (noteNumber_cfg a s) ▸ numberTaken_le a s
  exact (hn.slideTo (by rw [noteNumber_tx]; exact hwf) ha h1).of_tx rfl rfl

theorem execTxStart_windowInRange {d : PeerId} (hl : ConfigLegal s) (hs : s.ctl.cfgValid = true → WindowInRange s)
    (hv : t.ctl.cfgValid = true) (h : execTxStart d s = .next t) : WindowInRange t := by
  rcases execTxStart_cases h with ⟨st, info, rfl⟩ | ⟨hon, -, -, s1, h1, rfl⟩
  · exact (hs hv).of_tx rfl rfl
  · exact (startState_windowInRange (hs hon) (hl.initSeq_le hon) h1).of_tx rfl rfl

theorem execTxAbort_windowInRange (hs : s.ctl.cfgValid = true → WindowInRange s) (h : execTxAbort s = .next t)
    (hv : t.ctl.cfgValid = true) : WindowInRange t := by
  rcases execTxAbort_cases h with rfl | ⟨hon, -, rfl⟩
  · exact (hs hv).of_tx rfl rfl
  · have hr := (hs hon).releaseWindow
    exact ⟨hr.unused, hr.cursor, hr.eos, hr.slot⟩

/-- CFG.COMMIT leaves an empty window with every index at 0 (44 R263). -/
theorem execCfgCommit_windowInRange (hs : s.ctl.cfgValid = true → WindowInRange s) (h : execCfgCommit s = .next t)
    (hv : t.ctl.cfgValid = true) : WindowInRange t := by
  rcases execCfgCommit_cases h with rfl | ⟨-, -, htx, -⟩
  · exact (hs hv).of_tx rfl rfl
  · refine ⟨?_, ?_, ?_, fun i hi => ?_⟩
    · rw [htx]; exact Nat.zero_le _
    · rw [htx]; exact Nat.zero_le _
    · rw [htx]; exact Nat.zero_le _
    · have hslot : t.slot i = (clearProtocol s).slot i := slot_of_slots (by rw [htx]) i
      rw [hslot, clearProtocol_slot_invalid] at hi; cases hi

theorem exec_windowInRange (hwf : slotsWf s.tx.slots = true) (hl : ConfigLegal s)
    (hs : s.ctl.cfgValid = true → WindowInRange s) (h : exec i s = .next t) (hv : t.ctl.cfgValid = true) :
    WindowInRange t := by
  cases i with
  | reset => cases h; cases hv
  | cfgSet r x =>
    rcases execCfgSet_cases h with rfl | ⟨-, hoff, -⟩
    · exact (hs hv).of_tx rfl rfl
    · rw [hoff] at hv; cases hv
  | cfgCommit => exact execCfgCommit_windowInRange hs h hv
  | rxRun =>
    simp only [exec, execRxRun] at h
    split at h <;> cases h <;> exact (hs hv).of_tx rfl rfl
  | rxStop => cases h; exact (hs hv).of_tx rfl rfl
  | txStart d => exact execTxStart_windowInRange hl hs hv h
  | txPoll now => exact execTxPoll_windowInRange hwf hs hv h
  | txAbort => exact execTxAbort_windowInRange hs h hv
  | txSlide a => exact execTxSlide_windowInRange hwf hs hv h
  | _ =>
    have hreg := exec_sameRegisters rfl h
    exact (hs (hreg.ctl ▸ hv)).of_tx hreg.cfg hreg.tx

/-- What the step lemmas of the sender rest on: canonical form, a legal configuration, and the window in range on a
configured core. -/
structure SenderSound (s : State) : Prop where
  canonical : canonical s = true
  legal : ConfigLegal s
  window : s.ctl.cfgValid = true → WindowInRange s

theorem SenderSound.slotsWf (hs : SenderSound s) : slotsWf s.tx.slots = true := ((canonical_iff s).1 hs.canonical).1

theorem senderSound_iff (s : State) :
    SenderSound s ↔ canonical s = true ∧ configLegal s = true ∧ windowInRange s = true := by
  rw [configLegal_iff]
  constructor
  · exact fun hs => ⟨hs.canonical, hs.legal, (windowInRange_iff hs.slotsWf).2 hs.window⟩
  · exact fun ⟨hc, hl, hw⟩ => ⟨hc, hl, fun hv => windowInRange_slots hv hw⟩

theorem SenderSound.exec (hs : SenderSound s) (h : exec i s = .next t) : SenderSound t :=
  ⟨exec_canonical i s t hs.canonical h, exec_configLegal i s t hs.legal h,
    exec_windowInRange hs.slotsWf hs.legal hs.window h⟩

theorem SenderSound.takeRequest (hs : SenderSound s) (r : Presented) (rest : List Presented) :
    SenderSound (takeRequest r rest s) :=
  ⟨hs.canonical, hs.legal.of_sameRegisters ⟨rfl, rfl, rfl, rfl⟩, fun hv => (hs.window hv).of_tx rfl rfl⟩

theorem SenderSound.raiseState (hs : SenderSound s) (op : Byte) (about : LogSubject) :
    SenderSound (raiseState op about s) :=
  ⟨hs.canonical, hs.legal.raiseState, fun hv => (hs.window hv).of_tx rfl rfl⟩

/-- Settles O56: the slide, the start and the moves of a poll each keep the window in range. -/
theorem stepKeepsTheWindowInRange : Obligations.StepKeepsTheWindowInRange := by
  unfold Obligations.StepKeepsTheWindowInRange
  intro s t hc hl hw h
  have ht : SenderSound t :=
    step_preserves (fun r rest s hs => hs.takeRequest r rest) (fun code s hs => hs.raiseState code {})
      (fun i s t hs hexec => hs.exec hexec) ((senderSound_iff s).2 ⟨hc, hl, hw⟩) h
  exact (windowInRange_iff ht.slotsWf).2 ht.window

/-! ## How many slots hold a frame -/

/-- Settles O60: of the W + 1 slots of the window the one at `unusedPoint` holds no frame. -/
theorem atMostWSlotsHoldAFrame : Obligations.AtMostWSlotsHoldAFrame := by
  unfold Obligations.AtMostWSlotsHoldAFrame
  intro s hv h
  have hs : WindowInRange s := windowInRange_slots hv h
  constructor
  · have hunused : s.tx.unusedPoint ∈ List.range s.n := List.mem_range.2 (Nat.lt_succ_iff.2 hs.unused)
    have hlt : ((List.range s.n).filter fun i => (s.slot i).valid).length < (List.range s.n).length :=
      List.length_filter_lt_length_iff_exists.2 ⟨_, hunused, fun hi => (hs.slot _ hi).2 rfl⟩
    rw [List.length_range] at hlt
    exact Nat.lt_succ_iff.1 hlt
  · exact fun i hi => Bool.eq_false_iff.2 fun hvalid => Nat.not_le.2 hi (hs.slot i hvalid).1

end Sys2Proof.Proofs
end

section
/-! Claims about a transfer that runs (10 R21, R22, R24, R33): one principle, that a claim which every inactive core
meets and which TX.START, the slide and the moves of a poll keep is kept by every step; and its two uses, the window
full in FILL, and every slot holding its own frame. -/

namespace Sys2Proof.Proofs

open Sys2Proof.Machine

variable {s t : State} {Q : State → Prop}

/-! ## The principle -/

/-- `Q` speaks of a running transfer: it holds of every inactive core, TX.START brings it about, and the slide, the
change to DRAIN and the moves of a poll keep it. -/
structure TransferClaim (Q : State → Prop) : Prop where
  inactive : ∀ s, s.active = false → Q s
  same : ∀ s t, t.par = s.par → t.cfg = s.cfg → t.tx = s.tx → Q s → Q t
  start : ∀ d s t, SenderSound s → s.ctl.cfgValid = true → d ≠ s.localId →
    refill (cycFrom s.n s.initSeq s.w) (startRegisters d s) = .ok t → Q (startState t)
  slide : ∀ a s t, slotsWf s.tx.slots = true → WindowInRange s → s.maxp ≤ 4096 → a ≤ s.w → slideTo a s = .ok t →
    Q s → Q t
  drain : ∀ s, s.active = true → Q s → Q (noteExhaustion s)
  keep : ∀ s t, slotsWf s.tx.slots = true → KeepsFrames s t → Q s → Q t

theorem active_of_txState (h : t.tx.txState = s.tx.txState) : t.active = s.active := by
  rw [State.active, h, State.active]

/-- What a poll needs of a core that transfers, until the transfer ends or goes on. -/
structure TransferSound (Q : State → Prop) (s : State) : Prop where
  slots : slotsWf s.tx.slots = true
  window : WindowInRange s
  maxp : s.maxp ≤ 4096
  active : s.active = true
  claim : Q s

theorem TransferClaim.slideTo (hQ : TransferClaim Q) (hs : TransferSound Q s) {a : Nat} (ha : a ≤ s.w)
    (h : slideTo a s = .ok t) : TransferSound Q t where
  slots := slideTo_slotsWf hs.slots h
  window := hs.window.slideTo hs.slots ha h
  maxp := (maxp_of_cfg (slideTo_marksAtMost h).cfg).trans_le hs.maxp
  active := (active_of_txState (slideTo_marksAtMost h).txState).trans hs.active
  claim := hQ.slide a s t hs.slots hs.window hs.maxp ha h hs.claim

theorem TransferClaim.sameRegisters (hQ : TransferClaim Q) (hs : TransferSound Q s) (h : SameRegisters s t) :
    TransferSound Q t where
  slots := by rw [h.tx]; exact hs.slots
  window := hs.window.of_tx h.cfg h.tx
  maxp := (maxp_of_cfg h.cfg).trans_le hs.maxp
  active := (active_of_txState (by rw [h.tx])).trans hs.active
  claim := hQ.same s t h.par h.cfg h.tx hs.claim

theorem SenderSound.transferSound (hs : SenderSound s) (ha : s.active = true) (hq : Q s) : TransferSound Q s :=
  have hv := hs.legal.sends ha
  ⟨hs.slotsWf, hs.window hv, hs.legal.maxp_le hv, ha, hq⟩

theorem TransferClaim.execTxPoll (hQ : TransferClaim Q) (hs : SenderSound s) (hq : Q s) {now : Nat}
    (h : execTxPoll now s = .next t) : Q t := by
  have hp : t = refusePoll s ∨ slotsWf t.tx.slots = true ∧ Q t := by
    refine execTxPoll_leads (P := TransferSound Q) (R := fun s => slotsWf s.tx.slots = true ∧ Q s) ?_ ?_ ?_ ?_ ?_
      (fun _ ha => hs.transferSound ha hq) h
    · exact fun s t hst hs => hQ.sameRegisters hs hst
    · exact fun a s t ha hslide hs => hQ.slideTo hs ha hslide
    · exact fun s hs => ⟨slotsEmptyTo_wf s.w s.tx.slots hs.slots, hQ.inactive _ rfl⟩
    · exact fun s hs => ⟨by rw [noteExhaustion_eq]; exact hs.slots, hQ.drain s hs.active hs.claim⟩
    · exact fun s t hk ⟨hwf, hq⟩ => ⟨hk.canonical hwf, hQ.keep s t hwf hk hq⟩
  rcases hp with rfl | ⟨-, hp⟩
  · exact hQ.same s _ rfl rfl rfl hq
  · exact hp

/-- TX.SLIDE executed alone on an inactive core leaves it inactive. -/
theorem TransferClaim.execTxSlide (hQ : TransferClaim Q) (hs : SenderSound s) (hq : Q s) {a : Nat}
    (h : execTxSlide a s = .next t) : Q t := by
  cases ha : s.active with
  | false =>
    refine hQ.inactive t ?_
    rw [active_of_txState (execTxSlide_marksAtMost h).txState, ha]
  | true =>
    obtain ⟨s1, h1, rfl⟩ := execTxSlide_cases h
    have hreg := noteNumber_sameRegisters a s
    have hle : numberTaken a s ≤ (noteNumber a s).w := w_of_cfg hreg.cfg ▸ numberTaken_le a s
    have hs1 : TransferSound Q s1 := hQ.slideTo (hQ.sameRegisters (hs.transferSound ha hq) hreg) hle h1
    exact hQ.same s1 _ rfl rfl rfl hs1.claim

theorem TransferClaim.exec (hQ : TransferClaim Q) {i : Instr} (hs : SenderSound s) (hq : Q s) (h : exec i s = .next t) :
    Q t := by
  cases i with
  | reset => cases h; exact hQ.inactive _ rfl
  | cfgSet r x =>
    rcases execCfgSet_cases h with rfl | ⟨hlock, -, htx, -⟩
    · exact hQ.same s _ rfl rfl rfl hq
    · refine hQ.inactive t ?_
      rw [active_of_txState (s := s) (by rw [htx])]
      exact ((cfgLocked_eq_false s).1 hlock).1
  | cfgCommit =>
    rcases execCfgCommit_cases h with rfl | ⟨-, -, htx, -⟩
    · exact hQ.same s _ rfl rfl rfl hq
    · refine hQ.inactive t ?_
      rw [State.active, htx]; rfl
  | rxRun =>
    simp only [Machine.exec, execRxRun] at h
    split at h <;> cases h <;> exact hQ.same s _ rfl rfl rfl hq
  | rxStop => cases h; exact hQ.same s _ rfl rfl rfl hq
  | txStart d =>
    rcases execTxStart_cases h with ⟨st, info, rfl⟩ | ⟨hv, -, hd, s1, h1, rfl⟩
    · exact hQ.same s _ rfl rfl rfl hq
    · exact hQ.same (startState s1) _ rfl rfl rfl (hQ.start d s s1 hs hv hd h1)
  | txPoll now => exact hQ.execTxPoll hs hq h
  | txAbort =>
    rcases execTxAbort_cases h with rfl | ⟨-, -, rfl⟩
    · exact hQ.same s _ rfl rfl rfl hq
    · exact hQ.inactive _ rfl
  | txSlide a => exact hQ.execTxSlide hs hq h
  | _ =>
    have hreg := exec_sameRegisters rfl h
    exact hQ.same s t hreg.par hreg.cfg hreg.tx hq

/-- A claim about a running transfer is kept by every step of a sound core. -/
theorem TransferClaim.step (hQ : TransferClaim Q) (hs : SenderSound s) (hq : Q s) (h : step s = .next t) : Q t := by
  have ⟨_, ht⟩ : SenderSound t ∧ Q t := by
    refine step_preserves (P := fun s => SenderSound s ∧ Q s) ?_ ?_ ?_ ⟨hs, hq⟩ h
    · exact fun r rest s ⟨hs, hq⟩ => ⟨hs.takeRequest r rest, hQ.same s _ rfl rfl rfl hq⟩
    · exact fun code s ⟨hs, hq⟩ => ⟨hs.raiseState code {}, hQ.same s _ rfl rfl rfl hq⟩
    · exact fun i s t ⟨hs, hq⟩ hexec => ⟨hs.exec hexec, hQ.exec hs hq hexec⟩
  exact ht

/-! ## The window full in FILL -/

/-- In FILL with the source not exhausted exactly the slots other than `unusedPoint` hold a frame (10 R33 (a)). -/
def FillWindowFull (s : State) : Prop :=
  s.tx.txState = .fill → s.tx.exhausted = false → ∀ i < s.n, (s.slot i).valid = true ↔ i ≠ s.tx.unusedPoint

theorem fillWindowFull_iff (s : State) : fillWindowFull s = true ↔ FillWindowFull s := by
  have hbit : ∀ i, ((s.slot i).valid == (i != s.tx.unusedPoint)) = true ↔
      ((s.slot i).valid = true ↔ i ≠ s.tx.unusedPoint) := by
    intro i
    by_cases hi : i = s.tx.unusedPoint <;> cases (s.slot i).valid <;> simp [hi]
  unfold fillWindowFull FillWindowFull
  by_cases hfill : s.tx.txState = .fill <;> cases s.tx.exhausted <;> simp [hfill, hbit]

/-- Between the old `unusedPoint` and `a` a slide fills every slot; beyond `a` the frames stay; at `a` there is none. -/
theorem FillWindowFull.slideTo (hs : FillWindowFull s) (hwf : slotsWf s.tx.slots = true) (hw : WindowInRange s)
    {a : Nat} (ha : a ≤ s.w) (h : slideTo a s = .ok t) : FillWindowFull t := by
  intro hfill hmore i hi
  have hu : s.tx.unusedPoint < s.n := Nat.lt_succ_iff.2 hw.unused
  have han : a < s.n := Nat.lt_succ_iff.2 ha
  have hmarks := slideTo_marksAtMost h
  have htu : t.tx.unusedPoint = a := slideTo_unusedPoint h
  rw [n_of_cfg hmarks.cfg] at hi
  rw [htu]
  have hfillS : s.tx.txState = .fill := hmarks.txState.symm.trans hfill
  have hmoreS : s.tx.exhausted = false := by
    rcases hmarks.flags with ⟨he, -⟩ | ⟨he, -⟩
    · exact he.symm.trans hmore
    · rw [he] at hmore; cases hmore
  constructor
  · exact fun hv => htu ▸ ((hw.slideTo hwf ha h).slot i hv).2
  · intro hne
    by_cases hin : i ∈ cycRange s.n s.tx.unusedPoint a
    · exact slideTo_fills h hmore hin
    · have hfar : cycDist s.n s.tx.unusedPoint a < cycDist s.n s.tx.unusedPoint i := by
        have hnot : ¬ cycDist s.n s.tx.unusedPoint i < cycDist s.n s.tx.unusedPoint a :=
          fun hlt => hin ((mem_cycRange hu).2 ⟨hi, hlt⟩)
        have hdist : cycDist s.n s.tx.unusedPoint i ≠ cycDist s.n s.tx.unusedPoint a :=
          fun he => hne (cycDist_inj hu hi han he)
        omega
      have hneu : i ≠ s.tx.unusedPoint := by
        rintro rfl
        rw [cycDist_self] at hfar
        exact Nat.not_lt_zero _ hfar
      rcases slideTo_slot hwf h i with ⟨-, hchunk⟩ | ⟨hfreed, -⟩ | ⟨-, hsame⟩
      · exact hchunk.valid
      · obtain ⟨-, -, hnear⟩ := (mem_cycRangeOpen hu han).1 hfreed
        exact absurd hnear (Nat.not_le.2 hfar)
      · rw [hsame]; exact (hs hfillS hmoreS i hi).2 hneu

theorem FillWindowFull.keepsFrames (hs : FillWindowFull s) (hwf : slotsWf s.tx.slots = true) (hk : KeepsFrames s t) :
    FillWindowFull t := by
  have hstate : t.tx.txState = s.tx.txState := by rw [hk.tx]
  have hexhausted : t.tx.exhausted = s.tx.exhausted := by rw [hk.tx]
  have hunused : t.tx.unusedPoint = s.tx.unusedPoint := by rw [hk.tx]
  intro hfill hmore i hi
  rw [(hk.slot hwf i).valid, hunused]
  exact hs (hstate ▸ hfill) (hexhausted ▸ hmore) i (n_of_cfg hk.cfg ▸ hi)

/-- TX.START that does not meet EOS fills the W slots from INIT on (42 R184). -/
theorem startState_fillWindowFull (hw : WindowInRange s) (hinit : s.initSeq ≤ s.w) {d : PeerId}
    (h : refill (cycFrom s.n s.initSeq s.w) (startRegisters d s) = .ok t) : FillWindowFull (startState t) := by
  intro hfill hmore i hi
  have hf := refill_frame h
  have hunused : t.tx.unusedPoint = cycAdd s.n s.initSeq s.w := by rw [hf.tx]; rfl
  have hn : t.n = s.n := n_of_cfg hf.cfg
  show (t.slot i).valid = true ↔ i ≠ t.tx.unusedPoint
  rw [hunused]
  constructor
  · intro hvalid
    rcases refill_slot h i with hsame | ⟨hin, -⟩
    · rw [hsame, slot_startRegisters_invalid hw d i] at hvalid; cases hvalid
    · exact (start_range hinit i hin).2
  · intro hne
    exact refill_fills h hmore (mem_cycFrom_pred (Nat.lt_succ_iff.2 hinit) (hi.trans_eq hn) hne)

theorem fillWindowFull_transferClaim : TransferClaim FillWindowFull where
  inactive s ha hfill := by simp [State.active, hfill] at ha
  same s t _ hc htx hs hfill hmore i hi := by
    rw [slot_of_slots (s := s) (by rw [htx]) i, htx]
    exact hs (htx ▸ hfill) (htx ▸ hmore) i (n_of_cfg hc ▸ hi)
  start _ _ _ hs hv _ h := startState_fillWindowFull (hs.window hv) (hs.legal.initSeq_le hv) h
  slide _ _ _ hwf hw _ ha h hs := hs.slideTo hwf hw ha h
  drain s _ hs := by
    rw [noteExhaustion_eq]
    intro hfill hmore
    have hfillS : s.tx.txState = .fill := by simpa [show s.tx.exhausted = false from hmore] using hfill
    exact hs hfillS hmore
  keep _ _ hwf hk hs := hs.keepsFrames hwf hk

/-- Settles O58: the full window of FILL is a claim about a running transfer. -/
theorem stepKeepsTheFillWindowFull : Obligations.StepKeepsTheFillWindowFull := by
  unfold Obligations.StepKeepsTheFillWindowFull
  intro s t hc hl hw hs h
  rw [fillWindowFull_iff] at hs ⊢
  exact fillWindowFull_transferClaim.step ((senderSound_iff s).2 ⟨hc, hl, hw⟩) hs h

/-! ## Slots holding their frames -/

theorem slice_append_middle (a b c : Bytes) : slice (a ++ b ++ c) a.length (a.length + b.length) = b := by
  simp [slice]

theorem buildFrame_length (fl : Byte) (p q : PeerId) (k : Nat) (c : Bytes) (s : State) :
    (buildFrame fl p q k c s).length = 15 + s.seqb + c.length := by
  simp only [buildFrame, buildBody, List.length_append, frameBody_length, beBytes_length]
  omega

/-- The payload of a built frame is the chunk it was built from (30 R97, 41 R142). -/
theorem fieldPayload_buildFrame (fl : Byte) (p q : PeerId) (k : Nat) (c : Bytes) (s : State) :
    fieldPayload s.seqb (buildFrame fl p q k c s) = c := by
  have hhead : ([fl] ++ peerBytes p ++ peerBytes q ++ beBytes s.seqb k).length = 13 + s.seqb := by
    simp only [List.length_append, List.length_cons, List.length_nil, peerBytes_length, beBytes_length]
  have hend : 15 + s.seqb + c.length - 2 = 13 + s.seqb + c.length := by omega
  rw [fieldPayload, buildFrame_length, hend, ← hhead]
  exact slice_append_middle _ _ _

theorem seqb_le (s : State) : s.seqb ≤ 4 := by
  unfold State.seqb seqBytesOf
  split_ifs <;> omega

/-- Slot value `x` holds the encoded Data frame of number `i` from LOCAL to `dest`, at its true length (10 R21, R24). -/
structure HoldsOwnFrame (s : State) (i : Nat) (x : Slot) : Prop where
  frame : x.frame = buildFrame s.par.flagData s.localId s.tx.dest i (fieldPayload s.seqb x.frame) s
  payload : (fieldPayload s.seqb x.frame).length ≤ s.maxp
  flen : x.flen.toNat = x.frame.length

/-- A frame stays what it is in a state with the same parameters, configuration and destination. -/
theorem HoldsOwnFrame.of_dest {i : Nat} {x y : Slot} (hx : HoldsOwnFrame s i x) (hp : t.par = s.par)
    (hc : t.cfg = s.cfg) (hd : t.tx.dest = s.tx.dest) (hxy : SameFrame x y) : HoldsOwnFrame t i y := by
  obtain ⟨-, hframe, hflen⟩ := hxy
  exact ⟨by rw [hframe, hp, hd, localId_of_cfg hc, seqb_of_cfg hc, buildFrame_of_cfg hc]; exact hx.frame,
    by rw [hframe, seqb_of_cfg hc, maxp_of_cfg hc]; exact hx.payload, by rw [hframe, hflen]; exact hx.flen⟩

/-- A filled slot holds its own frame: no frame of a legal configuration outgrows the 13 bits of `flen` (log 26). -/
theorem HoldsChunk.holdsOwnFrame {i : Nat} {x : Slot} (hx : HoldsChunk s i x) (hm : s.maxp ≤ 4096) :
    HoldsOwnFrame s i x := by
  obtain ⟨c, hc, -, hframe, hflen, -⟩ := hx
  rw [built_eq_buildFrame] at hframe
  have hpayload : fieldPayload s.seqb x.frame = c := by rw [hframe, fieldPayload_buildFrame]
  refine ⟨by rw [hpayload]; exact hframe, by rw [hpayload]; exact hc, ?_⟩
  have hseqb := seqb_le s
  rw [hflen, hframe, buildFrame_length, BitVec.toNat_ofNat, Nat.mod_eq_of_lt (by omega)]

/-- During a transfer the destination is another core and every slot that holds a frame holds its own. -/
def SlotsHoldTheirFrames (s : State) : Prop :=
  s.active = true → s.tx.dest ≠ s.localId ∧ ∀ i, (s.slot i).valid = true → HoldsOwnFrame s i (s.slot i)

theorem slotsHoldTheirFrames_iff (hwf : slotsWf s.tx.slots = true) :
    slotsHoldTheirFrames s = true ↔ SlotsHoldTheirFrames s := by
  have hlisted : (∀ e ∈ s.tx.slots, e.2.valid = true → HoldsOwnFrame s e.1 e.2) ↔
      ∀ i, (s.slot i).valid = true → HoldsOwnFrame s i (s.slot i) := forall_valid_iff hwf (HoldsOwnFrame s)
  have hframe : ∀ e : Nat × Slot, (!e.2.valid ||
      (e.2.frame == buildFrame s.par.flagData s.localId s.tx.dest e.1 (fieldPayload s.seqb e.2.frame) s &&
        decide ((fieldPayload s.seqb e.2.frame).length ≤ s.maxp) && e.2.flen.toNat == e.2.frame.length)) = true ↔
      (e.2.valid = true → HoldsOwnFrame s e.1 e.2) := by
    intro e
    cases e.2.valid
    · simp
    · simp only [Bool.not_true, Bool.false_or, Bool.and_eq_true, beq_iff_eq, decide_eq_true_eq, true_implies]
      exact ⟨fun ⟨⟨hf, hp⟩, hl⟩ => ⟨hf, hp, hl⟩, fun ⟨hf, hp, hl⟩ => ⟨⟨hf, hp⟩, hl⟩⟩
  unfold slotsHoldTheirFrames SlotsHoldTheirFrames
  cases s.active
  · simp
  · simp only [Bool.not_true, Bool.false_or, Bool.and_eq_true, bne_iff_ne, List.all_eq_true, hframe, hlisted,
      true_implies]

/-- A slide fills slots with their own frames and leaves the others (42 R188; 20 R78). -/
theorem SlotsHoldTheirFrames.slideTo (hs : SlotsHoldTheirFrames s) (hwf : slotsWf s.tx.slots = true)
    (hm : s.maxp ≤ 4096) {a : Nat} (h : slideTo a s = .ok t) : SlotsHoldTheirFrames t := by
  have hf := slideTo_marksAtMost h
  have hactive : t.active = s.active := active_of_txState hf.txState
  intro ha
  obtain ⟨hne, hown⟩ := hs (hactive ▸ ha)
  refine ⟨by rw [slideTo_dest h, localId_of_cfg hf.cfg]; exact hne, fun i hi => ?_⟩
  have hold : HoldsOwnFrame s i (t.slot i) := by
    rcases slideTo_slot hwf h i with ⟨-, hchunk⟩ | ⟨-, hempty⟩ | ⟨-, hsame⟩
    · exact hchunk.holdsOwnFrame hm
    · rw [hempty] at hi; cases hi
    · exact hsame ▸ hown i (hsame ▸ hi)
  exact hold.of_dest hf.par hf.cfg (slideTo_dest h) (.refl _)

theorem SlotsHoldTheirFrames.keepsFrames (hs : SlotsHoldTheirFrames s) (hwf : slotsWf s.tx.slots = true)
    (hk : KeepsFrames s t) : SlotsHoldTheirFrames t := by
  have hdest : t.tx.dest = s.tx.dest := by rw [hk.tx]
  have hactive : t.active = s.active := active_of_txState (by rw [hk.tx])
  intro ha
  obtain ⟨hne, hown⟩ := hs (hactive ▸ ha)
  refine ⟨by rw [hdest, localId_of_cfg hk.cfg]; exact hne, fun i hi => ?_⟩
  have hi' : (s.slot i).valid = true := (hk.slot hwf i).valid ▸ hi
  exact (hown i hi').of_dest hk.par hk.cfg hdest (hk.slot hwf i)

/-- TX.START finds every slot empty and fills some, each with its own frame. -/
theorem startState_slotsHoldTheirFrames (hw : WindowInRange s) (hm : s.maxp ≤ 4096) {d : PeerId} (hd : d ≠ s.localId)
    (h : refill (cycFrom s.n s.initSeq s.w) (startRegisters d s) = .ok t) : SlotsHoldTheirFrames (startState t) := by
  intro _
  have hf := refill_frame h
  have hdest : t.tx.dest = (startRegisters d s).tx.dest := by rw [hf.tx]
  refine ⟨?_, fun i hi => ?_⟩
  · show t.tx.dest ≠ t.localId
    rw [hdest, localId_of_cfg hf.cfg]; exact hd
  · have hi' : (t.slot i).valid = true := hi
    rcases refill_slot h i with hsame | ⟨-, hchunk⟩
    · rw [hsame, slot_startRegisters_invalid hw d i] at hi'; cases hi'
    · exact (hchunk.holdsOwnFrame hm).of_dest hf.par hf.cfg hdest (.refl _)

theorem slotsHoldTheirFrames_transferClaim : TransferClaim SlotsHoldTheirFrames where
  inactive s hoff ha := by rw [hoff] at ha; cases ha
  same s t hp hc htx hs ha := by
    obtain ⟨hne, hown⟩ := hs (active_of_txState (s := s) (by rw [htx]) ▸ ha)
    refine ⟨by rw [htx, localId_of_cfg hc]; exact hne, fun i hi => ?_⟩
    have hsame : t.slot i = s.slot i := slot_of_slots (by rw [htx]) i
    rw [hsame] at hi ⊢
    exact (hown i hi).of_dest hp hc (by rw [htx]) (.refl _)
  start _ _ _ hs hv hd h := startState_slotsHoldTheirFrames (hs.window hv) (hs.legal.maxp_le hv) hd h
  slide _ _ _ hwf _ hm _ h hs := hs.slideTo hwf hm h
  drain s hactive hs := by
    rw [noteExhaustion_eq]
    obtain ⟨hne, hown⟩ := hs hactive
    exact fun _ => ⟨hne, fun i hi => (hown i hi).of_dest rfl rfl rfl (.refl _)⟩
  keep _ _ hwf hk hs := hs.keepsFrames hwf hk

/-- Settles O59: that a slot holds its own frame is a claim about a running transfer. -/
theorem stepKeepsSlotsHoldingTheirFrames : Obligations.StepKeepsSlotsHoldingTheirFrames := by
  unfold Obligations.StepKeepsSlotsHoldingTheirFrames
  intro s t hc hl hw hs h
  have hsound := (senderSound_iff s).2 ⟨hc, hl, hw⟩
  have hcanonical : canonical t = true := stepKeepsCanonicalForm s t hc h
  rw [slotsHoldTheirFrames_iff hsound.slotsWf] at hs
  rw [slotsHoldTheirFrames_iff ((canonical_iff t).1 hcanonical).1]
  exact slotsHoldTheirFrames_transferClaim.step hsound hs h

end Sys2Proof.Proofs
end

section
/-! Serving the request queue (20 R74; 70 R333), and the ack table's point write and bulk exchange (20 R71, R72). -/

namespace Sys2Proof.Proofs

open Sys2Proof.Machine

variable {s : State}

/-! ## Serving the request queue -/

theorem step_of_requests_nil (h : s.requests = []) : step s = .next s := by
  simp only [step, h]

theorem step_of_decode_ok {r : Presented} {rest : List Presented} {i : Instr} (hq : s.requests = r :: rest)
    (hd : decode s.mode r = .ok i) : step s = exec i (takeRequest r rest s) := by
  simp only [step, hq, hd]

/-- Settles O1: the queue is empty, or its oldest request is one that decodes. -/
theorem stepRunsTheDecodedOperation : Obligations.StepRunsTheDecodedOperation := by
  unfold Obligations.StepRunsTheDecodedOperation
  exact ⟨fun _ _ _ _ hq hd => step_of_decode_ok hq hd, fun _ h => step_of_requests_nil h⟩

/-! ## The ack table -/

/-- What a read finds after a point write: the last write to its key wins. -/
theorem tableFind_insert {α : Type} (m : List (Nat × α)) (k : Nat) (x : α) (j : Nat) :
    tableFind (tableInsert m k x) j = if j = k then some x else tableFind m j := by
  split
  · next hj => rw [hj, tableFind_insert_same]
  · next hj => exact tableFind_insert_other m x hj

theorem exec_ackPost_of_le {p : PeerId} {a : Nat} (h : a ≤ s.w) :
    exec (.ackPost p a) s = .next (respond .ok .none (setAckEntry p a s)) := by
  show execAckPost p a s = _
  rw [execAckPost, postAck_of_le h]

theorem exec_ackDrain (s : State) : exec .ackDrain s = .next (respond .ok (.map s.ackTab) (drainAcks s)) := rfl

/-- Settles O42: ACK.POST of a number in [0, W] is one point write, and ACK.DRAIN exchanges the table with the empty
map. -/
theorem ackTableIsPostedAndDrained : Obligations.AckTableIsPostedAndDrained := by
  unfold Obligations.AckTableIsPostedAndDrained
  constructor
  · intro s p a ha
    exact ⟨_, exec_ackPost_of_le ha, rfl, tableFind_insert s.ackTab p.toNat a⟩
  · exact exec_ackDrain

end Sys2Proof.Proofs
end

section
/-! The encoding (30 R90 to R101): cutting byte strings into fields and joining them again, the command decoder said
once, and that encoder and decoder undo each other. -/

namespace Sys2Proof.Proofs

open Sys2Proof.Machine

/-! ## Big-endian byte strings, read and written again (00 R15, 20 R64) -/

theorem unbe_lt (s : Bytes) : unbe s < 256 ^ s.length := by
  induction s with
  | nil => simp [unbe]
  | cons b t ih =>
    have hb : b.toNat < 256 := b.isLt
    rw [unbe_cons, List.length_cons, pow_succ]
    nlinarith

/-- Strings of one length are told apart by their numbers. -/
theorem unbe_injective {s t : Bytes} (hlen : s.length = t.length) (h : unbe s = unbe t) : s = t := by
  induction s generalizing t with
  | nil => exact (List.length_eq_zero_iff.1 hlen.symm).symm
  | cons b s ih =>
    obtain _ | ⟨c, t⟩ := t
    · simp at hlen
    · have hlen : s.length = t.length := by simpa using hlen
      have hs := unbe_lt s
      have ht := unbe_lt t
      rw [hlen] at hs
      rw [unbe_cons, unbe_cons, hlen] at h
      have hdiv (a : Nat) {r : Nat} (hr : r < 256 ^ t.length) : (a * 256 ^ t.length + r) / 256 ^ t.length = a := by
        rw [mul_comm, Nat.mul_add_div (by positivity), Nat.div_eq_of_lt hr, add_zero]
      have hhead : b.toNat = c.toNat := by rw [← hdiv b.toNat hs, h, hdiv c.toNat ht]
      rw [BitVec.eq_of_toNat_eq hhead, ih hlen (by rw [hhead] at h; omega)]

theorem beBytes_unbe {n : Nat} {s : Bytes} (h : s.length = n) : beBytes n (unbe s) = s := by
  subst h
  exact unbe_injective (beBytes_length _ _) (unbe_beBytes (unbe_lt s))

theorem peerBytes_peerOf {s : Bytes} (h : s.length = 6) : peerBytes (peerOf s) = s := by
  have hlt : unbe s < 2 ^ 48 := by simpa [h] using unbe_lt s
  rw [peerBytes, peerOf, BitVec.toNat_ofNat, Nat.mod_eq_of_lt hlt, beBytes_unbe h]

/-! ## Cutting a string at offsets (00 R13) -/

theorem slice_length {s : Bytes} {i j : Nat} (h : j ≤ s.length) : (slice s i j).length = j - i := by
  simp only [slice, List.length_take, List.length_drop]
  omega

theorem slice_add (s : Bytes) (i k : Nat) : slice s i (i + k) = (s.drop i).take k := by
  rw [slice, Nat.add_sub_cancel_left]

theorem slice_append_slice (s : Bytes) {i j k : Nat} (hij : i ≤ j) (hjk : j ≤ k) :
    slice s i j ++ slice s j k = slice s i k := by
  obtain ⟨a, rfl⟩ := Nat.exists_eq_add_of_le hij
  obtain ⟨b, rfl⟩ := Nat.exists_eq_add_of_le hjk
  rw [slice_add, slice_add, Nat.add_assoc, slice_add, List.take_add, List.drop_drop]

theorem slice_zero_length (s : Bytes) : slice s 0 s.length = s := by simp [slice]

theorem slice_of_append {s a b c : Bytes} {i j : Nat} (hs : s = a ++ b ++ c) (hi : a.length = i)
    (hj : i + b.length = j) : slice s i j = b := by
  subst hs hi hj
  exact slice_append_middle a b c

/-! ## The fields of an encoded frame (30 R90 to R97) -/

section

variable {n : Nat} {f : Byte} {p q : PeerId} {v : Nat} {c : Bytes} {crc : BitVec 16}

@[simp] theorem fieldSrc_frameBytes : fieldSrc (frameBytes n f p q v c crc) = p := by
  have hcut : slice (frameBytes n f p q v c crc) 1 7 = peerBytes p :=
    slice_of_append (a := [f]) (c := peerBytes q ++ beBytes n v ++ c ++ beBytes 2 crc.toNat)
      (by simp [frameBytes, frameBody]) (by simp) (by simp)
  rw [fieldSrc, hcut, peerOf_peerBytes]

@[simp] theorem fieldDst_frameBytes : fieldDst (frameBytes n f p q v c crc) = q := by
  have hcut : slice (frameBytes n f p q v c crc) 7 13 = peerBytes q :=
    slice_of_append (a := [f] ++ peerBytes p) (c := beBytes n v ++ c ++ beBytes 2 crc.toNat)
      (by simp [frameBytes, frameBody]) (by simp) (by simp)
  rw [fieldDst, hcut, peerOf_peerBytes]

theorem fieldSeq_frameBytes (hv : v < 256 ^ n) : fieldSeq n (frameBytes n f p q v c crc) = v := by
  have hcut : slice (frameBytes n f p q v c crc) 13 (13 + n) = beBytes n v :=
    slice_of_append (a := [f] ++ peerBytes p ++ peerBytes q) (c := c ++ beBytes 2 crc.toNat)
      (by simp [frameBytes, frameBody]) (by simp) (by simp)
  rw [fieldSeq, hcut, unbe_beBytes hv]

@[simp] theorem fieldPayload_frameBytes : fieldPayload n (frameBytes n f p q v c crc) = c := by
  rw [fieldPayload, frameBytes_length]
  exact slice_of_append (a := [f] ++ peerBytes p ++ peerBytes q ++ beBytes n v) (c := beBytes 2 crc.toNat)
    rfl (by simp; omega) (by omega)

@[simp] theorem fieldCrc_frameBytes : fieldCrc (frameBytes n f p q v c crc) = crc := by
  have hlt : crc.toNat < 256 ^ 2 := crc.isLt
  have hcut : slice (frameBytes n f p q v c crc) (15 + n + c.length - 2) (15 + n + c.length) = beBytes 2 crc.toNat :=
    slice_of_append (a := frameBody n f p q v c) (c := []) (by simp [frameBytes]) (by simp; omega) (by simp; omega)
  rw [fieldCrc, frameBytes_length, hcut, unbe_beBytes hlt, BitVec.ofNat_toNat, BitVec.setWidth_eq]

end

/-! ## A datagram is the frame of its fields (30 R90, R97) -/

theorem fieldSeq_lt {n : Nat} {d : Bytes} (h : minFrame n ≤ d.length) : fieldSeq n d < 256 ^ n := by
  have hlen : (slice d 13 (13 + n)).length = n := by
    rw [slice_length (by rw [minFrame] at h; omega)]
    omega
  simpa [fieldSeq, hlen] using unbe_lt (slice d 13 (13 + n))

theorem fieldPayload_eq_nil {n : Nat} {d : Bytes} (h : d.length = minFrame n) : fieldPayload n d = [] := by
  apply List.length_eq_zero_iff.1
  rw [fieldPayload, slice_length (by omega), h, minFrame]
  omega

/-- The five cuts leave no byte of the datagram out. -/
theorem frameBytes_fields {n : Nat} {f : Byte} {rest d : Bytes} (hd : d = f :: rest) (h : minFrame n ≤ d.length) :
    frameBytes n f (fieldSrc d) (fieldDst d) (fieldSeq n d) (fieldPayload n d) (fieldCrc d) = d := by
  rw [minFrame] at h
  have hflag : [f] = slice d 0 1 := by subst hd; rfl
  have hsrc : peerBytes (fieldSrc d) = slice d 1 7 := peerBytes_peerOf (slice_length (by omega))
  have hdst : peerBytes (fieldDst d) = slice d 7 13 := peerBytes_peerOf (slice_length (by omega))
  have hseq : beBytes n (fieldSeq n d) = slice d 13 (13 + n) :=
    beBytes_unbe (by rw [slice_length (by omega)]; omega)
  have hcrcLength : (slice d (d.length - 2) d.length).length = 2 := by rw [slice_length le_rfl]; omega
  have hcrc : beBytes 2 (fieldCrc d).toNat = slice d (d.length - 2) d.length := by
    have hlt : unbe (slice d (d.length - 2) d.length) < 2 ^ 16 := by
      simpa [hcrcLength] using unbe_lt (slice d (d.length - 2) d.length)
    rw [fieldCrc, BitVec.toNat_ofNat, Nat.mod_eq_of_lt hlt, beBytes_unbe hcrcLength]
  calc frameBytes n f (fieldSrc d) (fieldDst d) (fieldSeq n d) (fieldPayload n d) (fieldCrc d)
      = slice d 0 1 ++ slice d 1 7 ++ slice d 7 13 ++ slice d 13 (13 + n) ++ slice d (13 + n) (d.length - 2) ++
          slice d (d.length - 2) d.length := by
        rw [frameBytes, frameBody, hflag, hsrc, hdst, hseq, hcrc, fieldPayload]
    _ = slice d 0 d.length := by
        repeat rw [slice_append_slice d (by omega) (by omega)]
    _ = d := slice_zero_length d

/-! ## The frame decoder by flag (30 R91, R92) -/

section

variable {m : Mode} {d rest : Bytes}

theorem flagsDiffer_iff (m : Mode) : m.flagsDiffer = true ↔
    m.flagData ≠ m.flagAck ∧ m.flagData ≠ m.flagSync ∧ m.flagAck ≠ m.flagSync := by
  simp [Mode.flagsDiffer, and_assoc]

theorem decodeFrame_data (h : minFrame m.seqb ≤ d.length) (hd : d = m.flagData :: rest) : decodeFrame m d =
    .ok (.frameData (fieldSrc d) (fieldDst d) (fieldSeq m.seqb d) (fieldPayload m.seqb d) (fieldCrc d)) := by
  subst hd
  simp only [decodeFrame, if_true, if_neg (Nat.not_lt.2 h)]

theorem decodeFrame_ack (hm : m.flagsDiffer = true) (h : d.length = minFrame m.seqb) (hd : d = m.flagAck :: rest) :
    decodeFrame m d = .ok (.frameAck (fieldSrc d) (fieldDst d) (fieldSeq m.seqb d) (fieldCrc d)) := by
  obtain ⟨hda, -, -⟩ := (flagsDiffer_iff m).1 hm
  subst hd
  simp [decodeFrame, hda.symm, h]

theorem decodeFrame_sync (hm : m.flagsDiffer = true) (h : d.length = minFrame m.seqb) (hd : d = m.flagSync :: rest) :
    decodeFrame m d = .ok (.frameSync (fieldSrc d) (fieldDst d) (fieldSeq m.seqb d) (fieldCrc d)) := by
  obtain ⟨-, hds, has⟩ := (flagsDiffer_iff m).1 hm
  subst hd
  simp [decodeFrame, hds.symm, has.symm, h]

theorem decodeFrame_frameData {p q : PeerId} {v : Nat} {c : Bytes} {crc : BitVec 16} (hv : v < 256 ^ m.seqb) :
    decodeFrame m (frameBytes m.seqb m.flagData p q v c crc) = .ok (.frameData p q v c crc) := by
  have hlen : minFrame m.seqb ≤ (frameBytes m.seqb m.flagData p q v c crc).length := by
    rw [frameBytes_length, minFrame]
    omega
  simp [decodeFrame_data hlen rfl, fieldSeq_frameBytes hv]

theorem decodeFrame_frameAck {p q : PeerId} {v : Nat} {crc : BitVec 16} (hm : m.flagsDiffer = true)
    (hv : v < 256 ^ m.seqb) :
    decodeFrame m (frameBytes m.seqb m.flagAck p q v [] crc) = .ok (.frameAck p q v crc) := by
  simp [decodeFrame_ack hm (frameBytes_length m.seqb m.flagAck p q v [] crc) rfl, fieldSeq_frameBytes hv]

theorem decodeFrame_frameSync {p q : PeerId} {v : Nat} {crc : BitVec 16} (hm : m.flagsDiffer = true)
    (hv : v < 256 ^ m.seqb) :
    decodeFrame m (frameBytes m.seqb m.flagSync p q v [] crc) = .ok (.frameSync p q v crc) := by
  simp [decodeFrame_sync hm (frameBytes_length m.seqb m.flagSync p q v [] crc) rfl, fieldSeq_frameBytes hv]

/-- What a datagram that decodes can be, and the frame it then is. -/
theorem decodeFrame_cases {i : Instr} (h : decodeFrame m d = .ok i) :
    (∃ rest, d = m.flagData :: rest ∧ minFrame m.seqb ≤ d.length ∧
      i = .frameData (fieldSrc d) (fieldDst d) (fieldSeq m.seqb d) (fieldPayload m.seqb d) (fieldCrc d)) ∨
    (∃ rest, d = m.flagAck :: rest ∧ d.length = minFrame m.seqb ∧
      i = .frameAck (fieldSrc d) (fieldDst d) (fieldSeq m.seqb d) (fieldCrc d)) ∨
    (∃ rest, d = m.flagSync :: rest ∧ d.length = minFrame m.seqb ∧
      i = .frameSync (fieldSrc d) (fieldDst d) (fieldSeq m.seqb d) (fieldCrc d)) := by
  obtain _ | ⟨f, rest⟩ := d
  · cases h
  · rw [decodeFrame] at h
    split at h
    · next hf =>
      split at h
      · cases h
      · next hlen => cases h; exact .inl ⟨rest, by rw [hf], Nat.not_lt.1 hlen, rfl⟩
    split at h
    · next hf =>
      split at h
      · cases h
      · next hlen => cases h; exact .inr (.inl ⟨rest, by rw [hf], not_not.1 hlen, rfl⟩)
    split at h
    · next hf =>
      split at h
      · cases h
      · next hlen => cases h; exact .inr (.inr ⟨rest, by rw [hf], not_not.1 hlen, rfl⟩)
    · cases h

end

/-! ## The command decoder (30 R100, R101) -/

section

variable {m : Mode} {line : Line} {code : Byte} {f : Fields} {i : Instr}

/-- The command codes of 30 R100. -/
def listedCodes : List Nat :=
  [0x00, 0x01, 0x02, 0x03, 0x04, 0x05, 0x06, 0x10, 0x11, 0x12, 0x20, 0x30, 0x31, 0x40, 0x41, 0x42, 0x43,
    0x80, 0x81, 0x82, 0x83, 0x84, 0x85, 0x86, 0x88, 0x89]

theorem listed_of_decodeCommand (h : decodeCommand code f = .ok i) : code.toNat ∈ listedCodes := by
  unfold decodeCommand at h
  split at h
  case h_27 => cases h
  all_goals next hcode => rw [hcode]; decide

/-- A command decodes when its code names an operation and, for a sub-operation code, the line is the core's own. -/
theorem decode_command_ok_iff : decode m (.command line code f) = .ok i ↔
    decodeCommand code f = .ok i ∧ (0x80 ≤ code.toNat → line = .internal) := by
  rw [decode]
  split
  · next hcode => simp only [hcode, reduceCtorEq, false_and]
  · next hcode =>
    rw [hcode]
    split
    · next hline => simp [hline]
    · next hline =>
      have hinternal : 0x80 ≤ code.toNat → line = .internal := fun hsub => not_not.1 fun hne => hline ⟨hsub, hne⟩
      exact (and_iff_left hinternal).symm

/-- The code of 30 R100 names the operation, and the operand fields are those its row reads. -/
theorem decodeCommand_of_encode (h : encode m i = .command line code f) : decodeCommand code f = .ok i := by
  cases i <;> cases h <;> rfl

/-- What is issued under a code from 0x80 on is issued by the core's own sequencer. -/
theorem line_internal_of_encode (h : encode m i = .command line code f) (hsub : 0x80 ≤ code.toNat) :
    line = .internal := by
  revert hsub
  cases i <;> cases h <;> simp [codeOf, lineOf]

theorem decode_of_encode_command (h : encode m i = .command line code f) :
    decode m (.command line code f) = .ok i :=
  decode_command_ok_iff.2 ⟨decodeCommand_of_encode h, line_internal_of_encode h⟩

end

/-! ## Rejected commands -/

theorem step_of_decode_error {s : State} {r : Presented} {rest : List Presented} {e : Reject}
    (hq : s.requests = r :: rest) (hd : decode s.mode r = .error e) :
    step s = serveRejected r (takeRequest r rest s) := by
  simp only [step, hq, hd]

/-! ## The obligations -/

/-- Settles O4: a frame's fields are read back from its bytes, a command is read by its code. -/
theorem encodedOperationsDecodeToThemselves : Obligations.EncodedOperationsDecodeToThemselves := by
  unfold Obligations.EncodedOperationsDecodeToThemselves
  intro m i hm hi
  cases i with
  | frameData p q v c crc => exact decodeFrame_frameData (of_decide_eq_true hi)
  | frameAck p q v crc => exact decodeFrame_frameAck hm (of_decide_eq_true hi)
  | frameSync p q v crc => exact decodeFrame_frameSync hm (of_decide_eq_true hi)
  | _ => exact decode_of_encode_command rfl

/-- Settles O5: the datagram is long enough for its fields, and these joined are the datagram. -/
theorem decodedDatagramsEncodeToThemselves : Obligations.DecodedDatagramsEncodeToThemselves := by
  unfold Obligations.DecodedDatagramsEncodeToThemselves
  intro m d i h
  obtain ⟨rest, hd, hlen, rfl⟩ | ⟨rest, hd, hlen, rfl⟩ | ⟨rest, hd, hlen, rfl⟩ := decodeFrame_cases h
  · exact ⟨decide_eq_true (fieldSeq_lt hlen), congrArg Presented.datagram (frameBytes_fields hd hlen)⟩
  all_goals
    refine ⟨decide_eq_true (fieldSeq_lt hlen.ge), congrArg Presented.datagram ?_⟩
    have hjoin := frameBytes_fields hd hlen.ge
    rwa [fieldPayload_eq_nil hlen] at hjoin

/-- Settles O2: such a command does not decode, and what does not decode is refused with StateError. -/
theorem unlistedOrSubOperationCodeRaisesStateError : Obligations.UnlistedOrSubOperationCodeRaisesStateError := by
  unfold Obligations.UnlistedOrSubOperationCodeRaisesStateError
  intro s rest line code f hq hcode
  have hline : (Presented.command line code f).line = line := by
    refine if_neg fun h => ?_
    obtain hunlisted | ⟨hsub, -⟩ := hcode
    · exact hunlisted (by rw [h]; decide)
    · exact absurd hsub (by rw [h]; decide)
  cases hd : decode s.mode (.command line code f) with
  | ok i =>
    obtain ⟨hok, hinternal⟩ := decode_command_ok_iff.1 hd
    obtain hunlisted | ⟨hsub, hne⟩ := hcode
    · exact absurd (listed_of_decodeCommand hok) hunlisted
    · exact absurd (hinternal hsub) hne
  | error e =>
    rw [step_of_decode_error hq hd, takeRequest, hline]
    rfl

/-- Settles O6: the words are evaluated. -/
theorem sampleWordsDecode : Obligations.SampleWordsDecode := by
  unfold Obligations.SampleWordsDecode
  exact ⟨rfl, rfl, rfl, rfl, rfl, rfl, rfl, rfl, rfl⟩

end Sys2Proof.Proofs
end

section
/-! The CRC-16 unit (40 R122 to R127). A bit step is linear and loses nothing; so a byte step, and the fold over a
string, can be undone. A string passes CRC.CHK exactly when its own check value is 0. -/

namespace Sys2Proof.Proofs

open Sys2Proof.Machine

/-! ## The bit step (40 R122) -/

/-- What a bit step feeds back for the bit it shifts out. -/
def feedback (out : Bool) : BitVec 16 := if out then 0x1021#16 else 0

theorem feedback_xor (x y : Bool) : feedback (x ^^ y) = feedback x ^^^ feedback y := by
  cases x <;> cases y <;> rfl

theorem topBit_eq_decide (a : BitVec 16) : a.getLsbD 15 = decide (32768 ≤ a.toNat) :=
  (BitVec.msb_eq_getLsbD_last a).symm.trans a.msb_eq_decide

theorem crcBitStep_eq (a : BitVec 16) : crcBitStep a = (a <<< 1) ^^^ feedback (a.getLsbD 15) := by
  rw [crcBitStep, feedback]
  split
  · rfl
  · exact BitVec.xor_zero.symm

theorem crcBitStep_xor (a b : BitVec 16) : crcBitStep (a ^^^ b) = crcBitStep a ^^^ crcBitStep b := by
  rw [crcBitStep_eq, crcBitStep_eq a, crcBitStep_eq b, BitVec.shiftLeft_xor_distrib, BitVec.getLsbD_xor, feedback_xor]
  ac_rfl

theorem crcBitStep_of_lt {a : BitVec 16} (h : a.toNat < 32768) : crcBitStep a = a <<< 1 := by
  rw [crcBitStep, if_neg]
  rw [topBit_eq_decide]
  simpa using h

/-- The polynomial is odd, so a bit step puts the bit it shifts out into the lowest place. -/
theorem getLsbD_zero_crcBitStep (a : BitVec 16) : (crcBitStep a).getLsbD 0 = a.getLsbD 15 := by
  rw [crcBitStep_eq, BitVec.getLsbD_xor, BitVec.getLsbD_shiftLeft]
  cases a.getLsbD 15 <;> rfl

theorem eq_zero_of_crcBitStep_eq_zero {a : BitVec 16} (h : crcBitStep a = 0) : a = 0 := by
  have hlt : a.toNat < 32768 := by
    have htop := getLsbD_zero_crcBitStep a
    rw [h, topBit_eq_decide] at htop
    simpa using htop
  rw [crcBitStep_of_lt hlt] at h
  bv_omega

/-! ## Several bit steps -/

theorem crcBitSteps_xor (k : Nat) (a b : BitVec 16) :
    crcBitSteps k (a ^^^ b) = crcBitSteps k a ^^^ crcBitSteps k b := by
  induction k generalizing a b with
  | zero => rfl
  | succ k ih => rw [crcBitSteps, crcBitStep_xor, ih, crcBitSteps, crcBitSteps]

theorem crcBitSteps_eq_zero_iff {k : Nat} {a : BitVec 16} : crcBitSteps k a = 0 ↔ a = 0 := by
  induction k generalizing a with
  | zero => rfl
  | succ k ih =>
    rw [crcBitSteps, ih]
    exact ⟨eq_zero_of_crcBitStep_eq_zero, fun h => by rw [h]; rfl⟩

theorem crcBitSteps_injective (k : Nat) : Function.Injective (crcBitSteps k) := by
  intro a b h
  rw [← BitVec.xor_eq_zero_iff, ← crcBitSteps_xor] at h
  exact BitVec.xor_eq_zero_iff.1 (crcBitSteps_eq_zero_iff.1 h)

/-- Bit steps that shift nothing out are one shift. -/
theorem crcBitSteps_eq_shiftLeft {k : Nat} {a : BitVec 16} (h : a.toNat * 2 ^ k < 65536) :
    crcBitSteps k a = a <<< k := by
  induction k generalizing a with
  | zero => exact (BitVec.shiftLeft_zero a).symm
  | succ k ih =>
    have hpos : 0 < 2 ^ k := by positivity
    have hlt : a.toNat < 32768 := by rw [pow_succ] at h; nlinarith
    have hdouble : (a <<< 1).toNat = a.toNat * 2 := by
      rw [BitVec.toNat_shiftLeft, Nat.shiftLeft_eq]
      omega
    rw [crcBitSteps, crcBitStep_of_lt hlt, ih (by rw [hdouble, mul_assoc, ← pow_succ']; exact h), Nat.add_comm,
      BitVec.shiftLeft_add]

/-- Eight bit steps move a byte from the low half to the high half. -/
theorem crcBitSteps_setWidth (b : Byte) : crcBitSteps 8 (b.setWidth 16) = b.setWidth 16 <<< 8 :=
  crcBitSteps_eq_shiftLeft (by have := b.isLt; rw [BitVec.toNat_setWidth]; omega)

/-! ## Two bytes as a word, high byte first -/

theorem toNat_append_bytes (hi lo : Byte) : (hi ++ lo : BitVec 16).toNat = 256 * hi.toNat + lo.toNat := by
  rw [BitVec.toNat_append, ← Nat.shiftLeft_add_eq_or_of_lt lo.isLt, Nat.shiftLeft_eq, mul_comm]

theorem append_bytes_eq_xor (hi lo : Byte) : (hi ++ lo : BitVec 16) = (hi.setWidth 16 <<< 8) ^^^ lo.setWidth 16 := by
  apply BitVec.eq_of_getLsbD_eq
  intro i hi16
  rw [BitVec.getLsbD_append]
  by_cases hlow : i < 8
  · simpa [hlow] using fun _ => by omega
  · have hlo : lo.getLsbD i = false := BitVec.getLsbD_of_ge lo i (by omega)
    have hshift : i - 8 < 16 := by omega
    simpa [hlow, hlo, hshift] using fun _ => hi16

/-! ## The byte step (40 R123) -/

theorem byteStep_eq_crcFold : Spec.byteStep = crcFold := by
  have hbit : Spec.bitStep = crcBitStep := by
    funext a
    simp only [Spec.bitStep, crcBitStep, topBit_eq_decide, decide_eq_true_eq]
  funext a b
  rw [Spec.byteStep, hbit]
  rfl

/-- A byte may as well enter the low half, eight bit steps earlier. -/
theorem crcFold_eq (a : BitVec 16) (b : Byte) : crcFold a b = crcBitSteps 8 (a ^^^ crcBitSteps 8 (b.setWidth 16)) := by
  rw [crcFold, crcBitSteps_setWidth]

theorem crcFold_xor (a c : BitVec 16) (b e : Byte) : crcFold (a ^^^ c) (b ^^^ e) = crcFold a b ^^^ crcFold c e := by
  rw [crcFold, BitVec.setWidth_xor, BitVec.shiftLeft_xor_distrib, crcFold, crcFold, ← crcBitSteps_xor]
  congr 1
  ac_rfl

theorem crcFold_left_injective (b : Byte) : Function.Injective (crcFold · b) := fun _ _ h =>
  (BitVec.xor_left_inj _).1 (crcBitSteps_injective 8 h)

theorem crcFold_right_injective (a : BitVec 16) : Function.Injective (crcFold a) := by
  intro b e h
  rw [crcFold_eq, crcFold_eq] at h
  have hwide := crcBitSteps_injective 8 ((BitVec.xor_right_inj a).1 (crcBitSteps_injective 8 h))
  simpa using congrArg (BitVec.setWidth 8) hwide

/-- The high half of the accumulator acts as the byte does, the low half is shifted. -/
theorem crcFold_append_bytes (hi lo b : Byte) :
    crcFold (hi ++ lo) b = (lo.setWidth 16 <<< 8) ^^^ crcFold 0 (hi ^^^ b) := by
  rw [append_bytes_eq_xor, ← crcBitSteps_setWidth lo, crcFold, crcFold, ← crcBitSteps_xor, BitVec.setWidth_xor,
    BitVec.shiftLeft_xor_distrib, BitVec.ofNat_eq_ofNat, BitVec.zero_xor]
  ac_rfl

theorem crcFold_eq_table (a : BitVec 16) (b : Byte) :
    crcFold a b = (a <<< 8) ^^^ crcFold 0 ((a >>> 8).setWidth 8 ^^^ b) := by
  have hhalves : (a >>> 8).setWidth 8 ++ a.setWidth 8 = a := by
    apply BitVec.eq_of_toNat_eq
    have hlt := a.isLt
    rw [toNat_append_bytes, BitVec.toNat_setWidth, BitVec.toNat_setWidth, BitVec.toNat_ushiftRight,
      Nat.shiftRight_eq_div_pow]
    omega
  have hlow : (a.setWidth 8).setWidth 16 <<< 8 = a <<< 8 := by
    apply BitVec.eq_of_toNat_eq
    rw [BitVec.toNat_shiftLeft, BitVec.toNat_shiftLeft, BitVec.toNat_setWidth, BitVec.toNat_setWidth, Nat.shiftLeft_eq,
      Nat.shiftLeft_eq]
    omega
  rw [← hlow, ← crcFold_append_bytes, hhalves]

/-! ## The fold over a string (40 R124, R127) -/

theorem crcFrom_cons (a : BitVec 16) (b : Byte) (s : Bytes) : crcFrom a (b :: s) = crcFrom (crcFold a b) s := rfl

theorem crcFrom_append (a : BitVec 16) (s t : Bytes) : crcFrom a (s ++ t) = crcFrom (crcFrom a s) t :=
  List.foldl_append

theorem crc16_eq (s : Bytes) : crc16 s = crcFrom crcStart s := by rw [crc16]

theorem crcFrom_left_injective (s : Bytes) : Function.Injective (crcFrom · s) := by
  induction s with
  | nil => exact Function.injective_id
  | cons b s ih => exact ih.comp (crcFold_left_injective b)

/-- Changing one byte changes the accumulator, and no later byte can change it back. -/
theorem crcFrom_modify_ne {f : Byte → Byte} (hf : ∀ b, f b ≠ b) {s : Bytes} {i : Nat} (hi : i < s.length)
    (a : BitVec 16) : crcFrom a (s.modify i f) ≠ crcFrom a s := by
  induction s generalizing i a with
  | nil => simp at hi
  | cons b s ih =>
    cases i with
    | zero => exact fun h => hf b (crcFold_right_injective a (crcFrom_left_injective s h))
    | succ i => exact ih (by simpa using hi) (crcFold a b)

theorem crcFrom_xor {s e : Bytes} (h : s.length = e.length) (a c : BitVec 16) :
    crcFrom (a ^^^ c) (Spec.xorBytes s e) = crcFrom a s ^^^ crcFrom c e := by
  induction s generalizing e a c with
  | nil =>
    obtain rfl := List.length_eq_zero_iff.1 h.symm
    rfl
  | cons b s ih =>
    obtain _ | ⟨x, e⟩ := e
    · simp at h
    · rw [crcFrom_cons, crcFrom_cons, ← ih (by simpa using h), ← crcFold_xor]
      rfl

theorem crc16_xorBytes {s e : Bytes} (h : s.length = e.length) :
    crc16 (Spec.xorBytes s e) = crc16 s ^^^ crcFrom 0 e := by
  rw [crc16_eq, crc16_eq, ← crcFrom_xor h]
  rfl

/-! ## Inverted bits (40 R127 (c)) -/

theorem xor_bit_ne (b : Byte) {j : Nat} (hj : j < 8) : b ^^^ BitVec.ofNat 8 (2 ^ j) ≠ b := by
  intro h
  have hzero : BitVec.ofNat 8 (2 ^ j) = 0 := (BitVec.xor_right_inj b).1 (h.trans BitVec.xor_zero.symm)
  exact absurd hzero ((by decide : ∀ j < 8, BitVec.ofNat 8 (2 ^ j) ≠ 0) j hj)

theorem crc16_flipBit_ne {s : Bytes} {k : Nat} (hk : k < 8 * s.length) : crc16 (Spec.flipBit s k) ≠ crc16 s := by
  rw [crc16_eq, crc16_eq]
  exact crcFrom_modify_ne (fun b => xor_bit_ne b (by omega)) (by omega) _

theorem length_flipBit (s : Bytes) (k : Nat) : (Spec.flipBit s k).length = s.length := List.length_modify ..

/-! ## The check field (40 R126, R127 (d)) -/

theorem unbe_pair (hi lo : Byte) : unbe [hi, lo] = 256 * hi.toNat + lo.toNat := by
  show (0 * 256 + hi.toNat) * 256 + lo.toNat = _
  omega

/-- After two more bytes the accumulator is 0 exactly when it held these two bytes. -/
theorem crcFrom_pair_eq_zero_iff (a : BitVec 16) (hi lo : Byte) : crcFrom a [hi, lo] = 0 ↔ a = hi ++ lo := by
  have hsum : crcFrom a [hi, lo] = crcBitSteps 8 (crcBitSteps 8 (a ^^^ (hi ++ lo))) := by
    rw [append_bytes_eq_xor, ← BitVec.xor_assoc, crcBitSteps_xor 8 _ (lo.setWidth 16)]
    rw [crcFrom_cons, crcFrom_cons, crcFold_eq, crcFold]
    rfl
  rw [hsum, crcBitSteps_eq_zero_iff, crcBitSteps_eq_zero_iff]
  exact BitVec.xor_eq_zero_iff

theorem crc16_append_pair_eq_zero_iff (d : Bytes) (hi lo : Byte) :
    crc16 (d ++ [hi, lo]) = 0 ↔ crc16 d = hi ++ lo := by
  rw [crc16_eq, crcFrom_append, ← crc16_eq, crcFrom_pair_eq_zero_iff]

theorem crcCovered_append_pair (d : Bytes) (hi lo : Byte) : crcCovered (d ++ [hi, lo]) = d := by
  simp [crcCovered]

theorem fieldCrc_append_pair (d : Bytes) (hi lo : Byte) : fieldCrc (d ++ [hi, lo]) = hi ++ lo := by
  have hcut : slice (d ++ [hi, lo]) ((d ++ [hi, lo]).length - 2) (d ++ [hi, lo]).length = [hi, lo] :=
    slice_of_append (a := d) (c := []) (by simp) (by simp) (by simp)
  rw [fieldCrc, hcut, unbe_pair, ← toNat_append_bytes, BitVec.ofNat_toNat, BitVec.setWidth_eq]

theorem crcMatches_append_pair (d : Bytes) (hi lo : Byte) :
    crcMatches (d ++ [hi, lo]) = decide (crc16 d = hi ++ lo) := by
  rw [crcMatches, crcCovered_append_pair, fieldCrc_append_pair]
  rfl

theorem exists_append_pair {s : Bytes} (h : 2 ≤ s.length) : ∃ d hi lo, s = d ++ [hi, lo] := by
  have hlen : (s.drop (s.length - 2)).length = 2 := by rw [List.length_drop]; omega
  obtain ⟨hi, lo, htail⟩ := List.length_eq_two.1 hlen
  exact ⟨s.take (s.length - 2), hi, lo, by rw [← htail, List.take_append_drop]⟩

/-- A string passes CRC.CHK exactly when its own check value is 0. -/
theorem crcMatches_iff_crc16_eq_zero {s : Bytes} (h : 2 ≤ s.length) : crcMatches s = true ↔ crc16 s = 0 := by
  obtain ⟨d, hi, lo, rfl⟩ := exists_append_pair h
  rw [crcMatches_append_pair, decide_eq_true_eq, crc16_append_pair_eq_zero_iff]

theorem crc16_append_own (d : Bytes) : crc16 (d ++ beBytes 2 (crc16 d).toNat) = 0 := by
  obtain ⟨hi, lo, hpair⟩ := List.length_eq_two.1 (beBytes_length 2 (crc16 d).toNat)
  have hvalue : (crc16 d).toNat = unbe [hi, lo] := by rw [← hpair, unbe_beBytes (crc16 d).isLt]
  rw [hpair, crc16_append_pair_eq_zero_iff]
  exact BitVec.eq_of_toNat_eq (by rw [hvalue, unbe_pair, toNat_append_bytes])

/-! ## The operations of the unit -/

theorem exec_crc16 (d : Bytes) (s : State) :
    exec (.crc16 d) s = .next (respond .ok (.crc (crc16 d)) (setAcc (crc16 d) s)) := rfl

theorem exec_crcByte (b : Byte) (s : State) :
    exec (.crcByte b) s = .next (respond .ok .none (setAcc (crcFold s.hid.acc b) s)) := rfl

theorem exec_crcChk_of_short {d : Bytes} (h : d.length < 2) (s : State) :
    exec (.crcChk d) s = .next (raiseState 0x31 {} s) := by
  show execCrcChk d s = _
  rw [execCrcChk, if_pos h]

theorem exec_crcChk_of_not_short {d : Bytes} (h : 2 ≤ d.length) (s : State) :
    exec (.crcChk d) s = .next (respond .ok (.bit (crcMatches d)) (setAcc (crc16 (crcCovered d)) s)) := by
  show execCrcChk d s = _
  rw [execCrcChk, if_neg h.not_gt]

/-! ## The obligations -/

/-- Settles O8: bit steps are linear, and eight of them only shift the low half; the rule's entries are evaluated. -/
theorem crcByteFoldsOneByte : Obligations.CrcByteFoldsOneByte := by
  unfold Obligations.CrcByteFoldsOneByte
  simp only [Spec.tableEntry, byteStep_eq_crcFold]
  exact ⟨exec_crcByte, crcFold_eq_table, by decide⟩

/-- Settles O11: an inverted bit changes the check value, and a string passes CRC.CHK when its check value is 0. -/
theorem crcLaws : Obligations.CrcLaws := by
  unfold Obligations.CrcLaws
  refine ⟨fun d => Nat.le_of_lt_succ (crc16 d).isLt, fun _ _ => crc16_flipBit_ne, ?_, crc16_append_own, ?_⟩
  · intro d hi lo k hk hpass
    have hlen : 2 ≤ (d ++ [hi, lo]).length := by simp
    rw [crcMatches_iff_crc16_eq_zero hlen] at hpass
    rw [← Bool.not_eq_true, crcMatches_iff_crc16_eq_zero (by rwa [length_flipBit]), ← hpass]
    exact crc16_flipBit_ne (by simpa using hk)
  · intro d e hlen
    rw [crc16_xorBytes hlen, BitVec.xor_comm, ← BitVec.xor_assoc, BitVec.xor_self, BitVec.zero_xor]

/-- Settles O7: the operation is one write and one answer. -/
theorem crcInitLoadsAllOnes : Obligations.CrcInitLoadsAllOnes := by
  unfold Obligations.CrcInitLoadsAllOnes
  exact fun _ => rfl

/-- Settles O9: the check value is the fold by definition; the rule's values are evaluated. -/
theorem crc16FoldsTheString : Obligations.Crc16FoldsTheString := by
  unfold Obligations.Crc16FoldsTheString
  rw [byteStep_eq_crcFold]
  refine ⟨fun d s => ?_, by decide +kernel⟩
  rw [exec_crc16, crc16_eq]
  rfl

/-- Settles O10: the last two bytes are the word the check value is compared with. -/
theorem crcChkComparesTheCheckField : Obligations.CrcChkComparesTheCheckField := by
  unfold Obligations.CrcChkComparesTheCheckField
  refine ⟨fun d hi lo s => ?_, fun d s h => exec_crcChk_of_short h s⟩
  rw [exec_crcChk_of_not_short (by simp), crcMatches_append_pair, crcCovered_append_pair, ← toNat_append_bytes]
  simp only [BitVec.toNat_inj]
  rfl

end Sys2Proof.Proofs
end

section
/-! The frame codec (41 R140 to R160). What the encoders and each test of DEC do is said once; from these equations come
the order of the tests, that DEC undoes the encoders, and that a wrong check field or an inverted bit is never accepted. -/

namespace Sys2Proof.Proofs

open Sys2Proof.Machine

variable {s t : State} {d : Bytes}

/-! ## The encoders on a configured core (41 R143, R145, R146) -/

theorem exec_encData (hv : s.ctl.cfgValid = true) (p q : PeerId) (n : Nat) (c : Bytes) :
    exec (.encData p q n c) s = .next
      (if p = q then raise 0x40 .peerIdentityCollision (.collision p) { peer := some q, seq := some n } s
      else if s.w < n then raise 0x40 .rangeError (.range n s.w) { peer := some q, seq := some n } s
      else if s.maxp < c.length then
        raise 0x40 .lengthError (.length c.length none) { peer := some q, seq := some n } s
      else returnFrame s.par.flagData p q n c s) := by
  show execEncData p q n c s = _
  rw [execEncData, if_neg (by simp [hv])]
  split_ifs <;> rfl

theorem exec_encAck (hv : s.ctl.cfgValid = true) (p q : PeerId) (n : Nat) :
    exec (.encAck p q n) s = .next
      (if p = q then raise 0x41 .peerIdentityCollision (.collision p) { peer := some q, ack := some n } s
      else if s.w < n then raise 0x41 .rangeError (.range n s.w) { peer := some q, ack := some n } s
      else returnFrame s.par.flagAck p q n [] s) := by
  show execEncAck p q n s = _
  rw [execEncAck, if_neg (by simp [hv])]
  split_ifs <;> rfl

theorem exec_encSync (hv : s.ctl.cfgValid = true) (p q : PeerId) :
    exec (.encSync p q) s = .next
      (if p = q then raise 0x42 .peerIdentityCollision (.collision p) { peer := some q } s
      else returnFrame s.par.flagSync p q 0 [] s) := by
  show execEncSync p q s = _
  rw [execEncSync, if_neg (by simp [hv])]
  split_ifs <;> rfl

/-- Settles O12: a valid operand passes every test, and the frame is the one BUILD gives. -/
theorem encodersReturnTheFrame : Obligations.EncodersReturnTheFrame := by
  unfold Obligations.EncodersReturnTheFrame
  intro s p q hv hne
  refine ⟨fun n c hn hc => ?_, fun n hn => ?_, ?_⟩
  · rw [exec_encData hv, if_neg hne, if_neg hn.not_gt, if_neg hc.not_gt]
    rfl
  · rw [exec_encAck hv, if_neg hne, if_neg hn.not_gt]
    rfl
  · rw [exec_encSync hv, if_neg hne]
    rfl

/-- Settles O13: the first test that fails decides. -/
theorem encodersRefuseInOrder : Obligations.EncodersRefuseInOrder := by
  unfold Obligations.EncodersRefuseInOrder
  intro s p q n c hv
  refine ⟨fun he => ?_, fun hne hn => ?_, fun hne hn hc => ?_⟩
  · rw [exec_encData hv, exec_encAck hv, exec_encSync hv, if_pos he, if_pos he, if_pos he]
    exact ⟨rfl, rfl, rfl⟩
  · rw [exec_encData hv, exec_encAck hv, if_neg hne, if_neg hne, if_pos hn, if_pos hn]
    exact ⟨rfl, rfl⟩
  · rw [exec_encData hv, if_neg hne, if_neg hn.not_gt, if_pos hc]
    rfl

/-! ## The flag test and the length test of DEC (41 R151, R152) -/

/-- The first byte of `d` is the flag of `kind`, and of no kind that DEC compares it with earlier. -/
def FlagSays (s : State) (d : Bytes) : FrameKind → Prop
  | .data => d.head? = some s.par.flagData
  | .ack => d.head? ≠ some s.par.flagData ∧ d.head? = some s.par.flagAck
  | .sync => d.head? ≠ some s.par.flagData ∧ d.head? ≠ some s.par.flagAck ∧ d.head? = some s.par.flagSync

/-- The flag of each kind of frame (30 R91). -/
def flagOf (s : State) : FrameKind → Byte
  | .data => s.par.flagData
  | .ack => s.par.flagAck
  | .sync => s.par.flagSync

theorem FlagSays.exists_cons {kind : FrameKind} (h : FlagSays s d kind) : ∃ rest, d = flagOf s kind :: rest := by
  cases kind with
  | data => exact List.head?_eq_some_iff.1 h
  | ack => exact List.head?_eq_some_iff.1 h.2
  | sync => exact List.head?_eq_some_iff.1 h.2.2

theorem flagKnown_iff_flagSays : Spec.flagKnown s d ↔ ∃ kind, FlagSays s d kind := by
  constructor
  · intro h
    by_cases hdata : d.head? = some s.par.flagData
    · exact ⟨.data, hdata⟩
    by_cases hack : d.head? = some s.par.flagAck
    · exact ⟨.ack, hdata, hack⟩
    · exact ⟨.sync, hdata, hack, (h.resolve_left hdata).resolve_left hack⟩
  · rintro ⟨_ | _ | _, h⟩
    · exact .inl h
    · exact .inr (.inl h.2)
    · exact .inr (.inr h.2.2)

theorem decHead_of_flag_unknown {f : Byte} {rest : Bytes} (hd : d = f :: rest) (h : ¬ Spec.flagKnown s d) :
    decHead s d = .error { status := .formatError, info := .format f d.length, subject := {} } := by
  subst hd
  simp only [Spec.flagKnown, List.head?_cons, Option.some.injEq, not_or] at h
  obtain ⟨hdata, hack, hsync⟩ := h
  rw [decHead, if_neg hdata, if_neg hack, if_neg hsync]

theorem lengthFits_of_data (h : d.head? = some s.par.flagData) :
    Spec.lengthFits s d ↔ minFrame s.seqb ≤ d.length ∧ d.length ≤ minFrame s.seqb + s.maxp := by
  rw [Spec.lengthFits, if_pos h, minFrame]

theorem lengthFits_of_not_data (h : d.head? ≠ some s.par.flagData) :
    Spec.lengthFits s d ↔ d.length = minFrame s.seqb := by
  rw [Spec.lengthFits, if_neg h, minFrame]

/-- Once the flag is known the length decides. -/
theorem decHead_of_flagSays {kind : FrameKind} (h : FlagSays s d kind) :
    (Spec.lengthFits s d → decHead s d = .ok kind) ∧ (¬ Spec.lengthFits s d → decHead s d = .error (badLength d)) := by
  obtain ⟨rest, rfl⟩ := h.exists_cons
  cases kind with
  | data =>
    rw [lengthFits_of_data h, decHead, if_pos (show flagOf s .data = s.par.flagData from rfl)]
    exact ⟨fun hl => if_pos hl, fun hl => if_neg hl⟩
  | ack =>
    obtain ⟨hnotData, -⟩ := h
    have hdata : flagOf s .ack ≠ s.par.flagData := fun he => hnotData (congrArg some he)
    rw [lengthFits_of_not_data hnotData, decHead, if_neg hdata,
      if_pos (show flagOf s .ack = s.par.flagAck from rfl)]
    exact ⟨fun hl => if_pos hl, fun hl => if_neg hl⟩
  | sync =>
    obtain ⟨hnotData, hnotAck, -⟩ := h
    have hdata : flagOf s .sync ≠ s.par.flagData := fun he => hnotData (congrArg some he)
    have hack : flagOf s .sync ≠ s.par.flagAck := fun he => hnotAck (congrArg some he)
    rw [lengthFits_of_not_data hnotData, decHead, if_neg hdata, if_neg hack,
      if_pos (show flagOf s .sync = s.par.flagSync from rfl)]
    exact ⟨fun hl => if_pos hl, fun hl => if_neg hl⟩

theorem decHead_of_length_wrong (hk : Spec.flagKnown s d) (hl : ¬ Spec.lengthFits s d) :
    decHead s d = .error (badLength d) := by
  obtain ⟨kind, hs⟩ := flagKnown_iff_flagSays.1 hk
  exact (decHead_of_flagSays hs).2 hl

theorem decHead_eq_ok_iff {kind : FrameKind} :
    decHead s d = .ok kind ↔ FlagSays s d kind ∧ Spec.lengthFits s d := by
  refine ⟨fun h => ?_, fun ⟨hs, hl⟩ => (decHead_of_flagSays hs).1 hl⟩
  by_cases hk : Spec.flagKnown s d
  · by_cases hl : Spec.lengthFits s d
    · obtain ⟨kind', hs⟩ := flagKnown_iff_flagSays.1 hk
      cases ((decHead_of_flagSays hs).1 hl).symm.trans h
      exact ⟨hs, hl⟩
    · cases (decHead_of_length_wrong hk hl).symm.trans h
  · obtain _ | ⟨f, rest⟩ := d
    · cases h
    · cases (decHead_of_flag_unknown rfl hk).symm.trans h

theorem decHead_error_status_ne_ok {e : Failure} (h : decHead s d = .error e) : e.status ≠ .ok := by
  by_cases hk : Spec.flagKnown s d
  · by_cases hl : Spec.lengthFits s d
    · obtain ⟨kind, hs⟩ := flagKnown_iff_flagSays.1 hk
      cases (decHead_eq_ok_iff.2 ⟨hs, hl⟩).symm.trans h
    · cases (decHead_of_length_wrong hk hl).symm.trans h
      exact Status.noConfusion
  · obtain _ | ⟨f, rest⟩ := d
    · cases h
      exact Status.noConfusion
    · cases (decHead_of_flag_unknown rfl hk).symm.trans h
      exact Status.noConfusion

/-- A length that suits its flag leaves room for every field. -/
theorem minFrame_le_of_lengthFits (h : Spec.lengthFits s d) : minFrame s.seqb ≤ d.length := by
  rw [Spec.lengthFits] at h
  rw [minFrame]
  split_ifs at h
  · exact h.1
  · exact h.ge

/-! ## The tests of DEC after the length test (41 R153, R155, R156) -/

theorem crcMatches_eq_false_iff : crcMatches d = false ↔ crc16 (crcCovered d) ≠ fieldCrc d := by
  rw [crcMatches, beq_eq_false_iff_ne]

theorem crcMatches_eq_true_iff : crcMatches d = true ↔ crc16 (crcCovered d) = fieldCrc d := by
  rw [crcMatches, beq_iff_eq]

theorem decFrame_of_decHead {kind : FrameKind} (h : decHead s d = .ok kind) : decFrame s d = decTail s kind d := by
  rw [decFrame, h]

theorem decFrame_of_decHead_error {e : Failure} (h : decHead s d = .error e) : decFrame s d = .error e := by
  rw [decFrame, h]

theorem decTail_of_check_wrong (kind : FrameKind) (h : crcMatches d = false) :
    decTail s kind d = .error
      { status := .integrityError, info := .integrity (crc16 (crcCovered d)) (fieldCrc d), subject := {} } :=
  if_pos h

theorem decTail_of_check_right (kind : FrameKind) (h : crcMatches d = true) :
    decTail s kind d =
      if kind ≠ .sync ∧ s.w < fieldSeq s.seqb d then
        .error { status := .rangeError, info := .range (fieldSeq s.seqb d) s.w,
                 subject := frameSubject (decValue s kind d) }
      else if fieldSrc d = fieldDst d then
        .error { status := .peerIdentityCollision, info := .collision (fieldSrc d),
                 subject := frameSubject (decValue s kind d) }
      else .ok (decValue s kind d) :=
  if_neg (by simp [h])

theorem decTail_of_number_wrong {kind : FrameKind} (hc : crcMatches d = true) (hk : kind ≠ .sync)
    (hlt : s.w < fieldSeq s.seqb d) :
    decTail s kind d = .error
      { status := .rangeError, info := .range (fieldSeq s.seqb d) s.w, subject := frameSubject (decValue s kind d) } := by
  rw [decTail_of_check_right kind hc, if_pos ⟨hk, hlt⟩]

theorem decTail_of_addresses_equal {kind : FrameKind} (hc : crcMatches d = true)
    (hle : kind ≠ .sync → fieldSeq s.seqb d ≤ s.w) (heq : fieldSrc d = fieldDst d) :
    decTail s kind d = .error
      { status := .peerIdentityCollision, info := .collision (fieldSrc d),
        subject := frameSubject (decValue s kind d) } := by
  rw [decTail_of_check_right kind hc, if_neg fun h => (hle h.1).not_gt h.2, if_pos heq]

/-- What DEC accepts, and what it then returns. -/
theorem decFrame_eq_ok_iff {x : FrameVal} :
    decFrame s d = .ok x ↔ ∃ kind, decHead s d = .ok kind ∧ crcMatches d = true ∧
      (kind ≠ .sync → fieldSeq s.seqb d ≤ s.w) ∧ fieldSrc d ≠ fieldDst d ∧ x = decValue s kind d := by
  constructor
  · intro h
    cases hh : decHead s d with
    | error e =>
      rw [decFrame_of_decHead_error hh] at h
      cases h
    | ok kind =>
      rw [decFrame_of_decHead hh] at h
      cases hc : crcMatches d with
      | false =>
        rw [decTail_of_check_wrong kind hc] at h
        cases h
      | true =>
        rw [decTail_of_check_right kind hc] at h
        split_ifs at h with hrange hself
        cases h
        exact ⟨kind, rfl, rfl, fun hk => Nat.not_lt.1 fun hlt => hrange ⟨hk, hlt⟩, hself, rfl⟩
  · rintro ⟨kind, hh, hc, hrange, hself, rfl⟩
    rw [decFrame_of_decHead hh, decTail_of_check_right kind hc,
      if_neg fun hlt => (hrange hlt.1).not_gt hlt.2, if_neg hself]

theorem decFrame_error_status_ne_ok {e : Failure} (h : decFrame s d = .error e) : e.status ≠ .ok := by
  cases hh : decHead s d with
  | error e' =>
    rw [decFrame_of_decHead_error hh] at h
    cases h
    exact decHead_error_status_ne_ok hh
  | ok kind =>
    rw [decFrame_of_decHead hh] at h
    cases hc : crcMatches d with
    | false =>
      rw [decTail_of_check_wrong kind hc] at h
      cases h
      simp
    | true =>
      rw [decTail_of_check_right kind hc] at h
      split_ifs at h <;> cases h <;> simp

/-! ## DEC on a configured core -/

theorem exec_dec_of_error (hv : s.ctl.cfgValid = true) {e : Failure} (h : decFrame s d = .error e) :
    exec (.dec d) s = .next (raise 0x43 e.status e.info e.subject (decTrace d s)) := by
  show execDec d s = _
  rw [execDec, if_neg (by simp [hv]), h]

theorem exec_dec_of_ok (hv : s.ctl.cfgValid = true) {x : FrameVal} (h : decFrame s d = .ok x) :
    exec (.dec d) s = .next (respond .ok (.frame x) (decTrace d s)) := by
  show execDec d s = _
  rw [execDec, if_neg (by simp [hv]), h]

theorem decTrace_of_decHead {kind : FrameKind} (h : decHead s d = .ok kind) :
    decTrace d s = setAcc (crc16 (crcCovered d)) s := by
  rw [decTrace, h]

theorem decTrace_of_decHead_error {e : Failure} (h : decHead s d = .error e) : decTrace d s = s := by
  rw [decTrace, h]

/-- A test of DEC after the length test fails: the check value stays in the accumulator. -/
theorem exec_dec_of_decTail_error (hv : s.ctl.cfgValid = true) {kind : FrameKind} (hh : decHead s d = .ok kind)
    {e : Failure} (h : decTail s kind d = .error e) :
    exec (.dec d) s = .next (Spec.refusal 0x43 e.status e.info e.subject (Spec.withAcc (crc16 (crcCovered d)) s)) := by
  rw [exec_dec_of_error hv ((decFrame_of_decHead hh).trans h), decTrace_of_decHead hh]
  rfl

/-- What DEC records of a frame whose check field is right (60 R315). -/
theorem frameSubject_decValue {kind : FrameKind} (h : FlagSays s d kind) :
    frameSubject (decValue s kind d) = Spec.aboutBytes s d := by
  cases kind with
  | data =>
    have hd : d.head? = some s.par.flagData := h
    rw [Spec.aboutBytes, if_pos hd, if_neg fun hack => hack.1 hd]
    rfl
  | ack =>
    obtain ⟨hdata, hack⟩ := h
    rw [Spec.aboutBytes, if_neg hdata, if_pos ⟨hdata, hack⟩]
    rfl
  | sync =>
    obtain ⟨hdata, hack, -⟩ := h
    rw [Spec.aboutBytes, if_neg hdata, if_neg fun h => hack h.2]
    rfl

/-- Only a Data and an Ack frame carry a number that DEC tests. -/
theorem FlagSays.ne_sync_iff {kind : FrameKind} {f : Byte} {rest : Bytes} (h : FlagSays s (f :: rest) kind) :
    kind ≠ .sync ↔ f = s.par.flagData ∨ f = s.par.flagAck := by
  cases kind with
  | data => exact iff_of_true (by simp) (.inl (Option.some.inj h))
  | ack => exact iff_of_true (by simp) (.inr (Option.some.inj h.2))
  | sync =>
    obtain ⟨hdata, hack, -⟩ := h
    refine iff_of_false (by simp) ?_
    rintro (rfl | rfl)
    · exact hdata rfl
    · exact hack rfl

/-- Settles O15: the flag test, the length test and the tests of `decTail`, each reached when those before it pass. -/
theorem decTestsInOrder : Obligations.DecTestsInOrder := by
  unfold Obligations.DecTestsInOrder
  intro s d hv
  have refuse {e : Failure} (h : decHead s d = .error e) :
      exec (.dec d) s = .next (Spec.refusal 0x43 e.status e.info e.subject s) := by
    rw [exec_dec_of_error hv (decFrame_of_decHead_error h), decTrace_of_decHead_error h]
    rfl
  refine ⟨fun hd => ?_, fun f rest hd => ⟨fun hk => ?_, fun hk hl => ?_, fun hk hl => ?_⟩⟩
  · subst hd
    exact refuse rfl
  · exact refuse (decHead_of_flag_unknown hd hk)
  · rw [refuse (decHead_of_length_wrong hk hl), badLength, hd]
    rfl
  · obtain ⟨kind, hs⟩ := flagKnown_iff_flagSays.1 hk
    have hh : decHead s d = .ok kind := decHead_eq_ok_iff.2 ⟨hs, hl⟩
    have hnumber : kind ≠ .sync ↔ f = s.par.flagData ∨ f = s.par.flagAck := (hd ▸ hs).ne_sync_iff
    rw [← frameSubject_decValue hs]
    refine ⟨fun hc => ?_, fun hc hf hlt => ?_, fun hc hf heq => ?_⟩
    · exact exec_dec_of_decTail_error hv hh (decTail_of_check_wrong kind (crcMatches_eq_false_iff.2 hc))
    · exact exec_dec_of_decTail_error hv hh
        (decTail_of_number_wrong (crcMatches_eq_true_iff.2 hc) (hnumber.2 hf) hlt)
    · have hle : kind ≠ .sync → fieldSeq s.seqb d ≤ s.w := fun hk =>
        hf.resolve_left fun ⟨hdata, hack⟩ => (hnumber.1 hk).elim hdata hack
      exact exec_dec_of_decTail_error hv hh
        (decTail_of_addresses_equal (crcMatches_eq_true_iff.2 hc) hle (congrArg peerOf heq))

/-! ## DEC undoes the encoders (41 R158) -/

section

variable {n : Nat} {f : Byte} {p q : PeerId} {v : Nat} {c : Bytes} {crc : BitVec 16}

@[simp] theorem crcCovered_frameBytes : crcCovered (frameBytes n f p q v c crc) = frameBody n f p q v c := by
  rw [crcCovered, frameBytes, List.length_append, beBytes_length, Nat.add_sub_cancel, List.take_left]

theorem crcMatches_frameBytes :
    crcMatches (frameBytes n f p q v c crc) = true ↔ crc16 (frameBody n f p q v c) = crc := by
  rw [crcMatches_eq_true_iff, crcCovered_frameBytes, fieldCrc_frameBytes]

theorem built_eq_frameBytes :
    Spec.built s f p q v c = frameBytes s.seqb f p q v c (crc16 (Spec.body s f p q v c)) := rfl

/-- With a payload in bounds the Data layout passes the flag test and the length test, whatever its other fields hold. -/
theorem decHead_frameData (hc : c.length ≤ s.maxp) :
    decHead s (frameBytes s.seqb s.par.flagData p q v c crc) = .ok .data := by
  refine decHead_eq_ok_iff.2 ⟨rfl, (lengthFits_of_data rfl).2 ?_⟩
  rw [frameBytes_length, minFrame]
  omega

/-- The decoder's mode has the flags of the parameters. -/
theorem par_flagsDiffer_iff :
    s.par.flagsDiffer = true ↔ s.par.flagData ≠ s.par.flagAck ∧ s.par.flagData ≠ s.par.flagSync ∧
      s.par.flagAck ≠ s.par.flagSync :=
  flagsDiffer_iff s.mode

theorem decHead_frameAck (hf : s.par.flagsDiffer = true) :
    decHead s (frameBytes s.seqb s.par.flagAck p q v [] crc) = .ok .ack := by
  obtain ⟨hda, -, -⟩ := par_flagsDiffer_iff.1 hf
  have hdata : (frameBytes s.seqb s.par.flagAck p q v [] crc).head? ≠ some s.par.flagData :=
    fun h => hda (Option.some.inj h).symm
  exact decHead_eq_ok_iff.2 ⟨⟨hdata, rfl⟩, (lengthFits_of_not_data hdata).2 (frameBytes_length ..)⟩

theorem decHead_frameSync (hf : s.par.flagsDiffer = true) :
    decHead s (frameBytes s.seqb s.par.flagSync p q v [] crc) = .ok .sync := by
  obtain ⟨-, hds, has⟩ := par_flagsDiffer_iff.1 hf
  have hdata : (frameBytes s.seqb s.par.flagSync p q v [] crc).head? ≠ some s.par.flagData :=
    fun h => hds (Option.some.inj h).symm
  have hack : (frameBytes s.seqb s.par.flagSync p q v [] crc).head? ≠ some s.par.flagAck :=
    fun h => has (Option.some.inj h).symm
  exact decHead_eq_ok_iff.2 ⟨⟨hdata, hack, rfl⟩, (lengthFits_of_not_data hdata).2 (frameBytes_length ..)⟩

/-- A number in [0, W] fits the sequence field (30 R94). -/
theorem w_lt_pow_seqb (s : State) : s.w < 256 ^ s.seqb := by
  have h32 : s.w < 2 ^ 32 := s.cfg.w.isLt
  unfold State.seqb seqBytesOf
  split_ifs <;> omega

/-- A built frame with a number in [0, W] and two addresses passes every test of DEC. -/
theorem decFrame_built {kind : FrameKind} (hh : decHead s (Spec.built s f p q v c) = .ok kind) (hv : v ≤ s.w)
    (hne : p ≠ q) : decFrame s (Spec.built s f p q v c) = .ok (decValue s kind (Spec.built s f p q v c)) := by
  refine decFrame_eq_ok_iff.2 ⟨kind, hh, crcMatches_frameBytes.2 rfl, fun _ => ?_, ?_, rfl⟩
  · rw [built_eq_frameBytes, fieldSeq_frameBytes (hv.trans_lt (w_lt_pow_seqb s))]
    exact hv
  · rw [built_eq_frameBytes, fieldSrc_frameBytes, fieldDst_frameBytes]
    exact hne

theorem exec_dec_built (hcfg : s.ctl.cfgValid = true) {kind : FrameKind}
    (hh : decHead s (Spec.built s f p q v c) = .ok kind) (hv : v ≤ s.w) (hne : p ≠ q) :
    exec (.dec (Spec.built s f p q v c)) s =
      .next (Spec.reply .ok (.frame (decValue s kind (Spec.built s f p q v c)))
        (Spec.withAcc (crc16 (Spec.body s f p q v c)) s)) := by
  have hacc : crcCovered (Spec.built s f p q v c) = Spec.body s f p q v c := crcCovered_frameBytes
  rw [exec_dec_of_ok hcfg (decFrame_built hh hv hne), decTrace_of_decHead hh, hacc]
  rfl

end

/-- A string whose check field is right is the frame BUILD gives for its own fields. -/
theorem eq_built_of_crcMatches {f : Byte} {rest : Bytes} (hd : d = f :: rest) (hlen : minFrame s.seqb ≤ d.length)
    (hc : crcMatches d = true) :
    d = Spec.built s f (fieldSrc d) (fieldDst d) (fieldSeq s.seqb d) (fieldPayload s.seqb d) := by
  have hjoin := frameBytes_fields hd hlen
  have hcrc : crc16 (frameBody s.seqb f (fieldSrc d) (fieldDst d) (fieldSeq s.seqb d) (fieldPayload s.seqb d)) =
      fieldCrc d := crcMatches_frameBytes.1 (hjoin.symm ▸ hc)
  conv_lhs => rw [← hjoin, ← hcrc]
  rfl

theorem fieldPayload_length_le (h : d.length ≤ minFrame s.seqb + s.maxp) :
    (fieldPayload s.seqb d).length ≤ s.maxp := by
  rw [fieldPayload, slice_length (by omega)]
  rw [minFrame] at h
  omega

/-- Whenever DEC answers OK its tests have passed. -/
theorem decFrame_of_exec_dec_ok {r : Response} (h : exec (.dec d) s = .next t) (ht : t.resp = some r)
    (hr : r.status = .ok) : ∃ x, decFrame s d = .ok x ∧ r.value = .frame x := by
  have h : execDec d s = .next t := h
  unfold execDec at h
  split at h
  · cases h; cases ht; cases hr
  · split at h
    · next e he =>
      cases h; cases ht
      exact absurd hr (decFrame_error_status_ne_ok he)
    · next x hx =>
      cases h; cases ht
      exact ⟨x, hx, rfl⟩

/-- Settles O14: a built frame passes every test with its own fields; what passes every test is built from its fields. -/
theorem decodingInvertsEncoding : Obligations.DecodingInvertsEncoding := by
  unfold Obligations.DecodingInvertsEncoding
  constructor
  · intro s p q hcfg hf hne
    refine ⟨fun n c hn hc => ?_, fun n hn => ?_, ?_⟩
    · have hv : n < 256 ^ s.seqb := hn.trans_lt (w_lt_pow_seqb s)
      rw [exec_dec_built hcfg (decHead_frameData hc) hn hne]
      simp only [decValue, built_eq_frameBytes, fieldSrc_frameBytes, fieldDst_frameBytes, fieldSeq_frameBytes hv,
        fieldPayload_frameBytes]
    · have hv : n < 256 ^ s.seqb := hn.trans_lt (w_lt_pow_seqb s)
      rw [exec_dec_built hcfg (decHead_frameAck hf) hn hne]
      simp only [decValue, built_eq_frameBytes, fieldSrc_frameBytes, fieldDst_frameBytes, fieldSeq_frameBytes hv]
    · rw [exec_dec_built hcfg (decHead_frameSync hf) (Nat.zero_le _) hne]
      simp only [decValue, built_eq_frameBytes, fieldSrc_frameBytes, fieldDst_frameBytes]
  · intro s t d r h ht hr
    obtain ⟨x, hx, hvalue⟩ := decFrame_of_exec_dec_ok h ht hr
    obtain ⟨kind, hh, hc, hrange, hself, rfl⟩ := decFrame_eq_ok_iff.1 hx
    obtain ⟨hs, hl⟩ := decHead_eq_ok_iff.1 hh
    obtain ⟨rest, hd⟩ := hs.exists_cons
    have hlen := minFrame_le_of_lengthFits hl
    have hbuilt := eq_built_of_crcMatches hd hlen hc
    cases kind with
    | data =>
      have hpayload := fieldPayload_length_le ((lengthFits_of_data hs).1 hl).2
      exact .inl ⟨_, _, _, _, hvalue, hself, hrange (by simp), hpayload, hbuilt⟩
    | ack =>
      rw [fieldPayload_eq_nil ((lengthFits_of_not_data hs.1).1 hl)] at hbuilt
      exact .inr (.inl ⟨_, _, _, hvalue, hself, hrange (by simp), hbuilt⟩)
    | sync =>
      rw [fieldPayload_eq_nil ((lengthFits_of_not_data hs.1).1 hl)] at hbuilt
      exact .inr (.inr ⟨_, _, _, hvalue, hself, fieldSeq_lt hlen, hbuilt⟩)

/-! ## A wrong check field (41 R153, 43 R231) -/

theorem receiveDatagram_of_error (hv : s.ctl.cfgValid = true) (hrx : s.ctl.rxEn = true) {e : Failure}
    (h : decFrame s d = .error e) :
    receiveDatagram d s = raise 0x20 e.status e.info e.subject (decTrace d (loadRxbuf d s)) := by
  rw [receiveDatagram, if_neg (by simp [hv, hrx]), h]

/-- Past the length test a wrong check field alone decides. -/
theorem receiveDatagram_of_check_wrong (hv : s.ctl.cfgValid = true) (hrx : s.ctl.rxEn = true) {kind : FrameKind}
    {f : Byte} {p q : PeerId} {v : Nat} {c : Bytes} {crc : BitVec 16}
    (hh : decHead s (frameBytes s.seqb f p q v c crc) = .ok kind) (hne : crc ≠ crc16 (Spec.body s f p q v c)) :
    receiveDatagram (frameBytes s.seqb f p q v c crc) s =
      Spec.refusal 0x20 .integrityError (.integrity (crc16 (Spec.body s f p q v c)) crc) {}
        { s with hid := (receiveDatagram (frameBytes s.seqb f p q v c crc) s).hid } := by
  have hc : crcMatches (frameBytes s.seqb f p q v c crc) = false :=
    Bool.eq_false_iff.2 fun h => hne (crcMatches_frameBytes.1 h).symm
  rw [receiveDatagram_of_error hv hrx ((decFrame_of_decHead hh).trans (decTail_of_check_wrong kind hc)),
    crcCovered_frameBytes, fieldCrc_frameBytes, decTrace_frame]
  rfl

/-- Settles O47: each frame passes the flag test and the length test whatever its fields hold. -/
theorem framesWithAWrongCheckFieldAreDropped : Obligations.FramesWithAWrongCheckFieldAreDropped := by
  unfold Obligations.FramesWithAWrongCheckFieldAreDropped
  intro s p q v crc hv hrx hf
  exact ⟨fun c hc hne => ⟨_, rfl, receiveDatagram_of_check_wrong hv hrx (decHead_frameData hc) hne⟩,
    fun hne => ⟨_, rfl, receiveDatagram_of_check_wrong hv hrx (decHead_frameAck hf) hne⟩,
    fun hne => ⟨_, rfl, receiveDatagram_of_check_wrong hv hrx (decHead_frameSync hf) hne⟩⟩

/-! ## One inverted bit (41 R160) -/

theorem crcMatches_flipBit {k : Nat} (hlen : 2 ≤ d.length) (hk : k < 8 * d.length) (h : crcMatches d = true) :
    crcMatches (Spec.flipBit d k) = false := by
  rw [crcMatches_iff_crc16_eq_zero hlen] at h
  rw [← Bool.not_eq_true, crcMatches_iff_crc16_eq_zero (by rwa [length_flipBit]), ← h]
  exact crc16_flipBit_ne hk

theorem flipBit_cons_of_lt (f : Byte) (rest : Bytes) {k : Nat} (hk : k < 8) :
    Spec.flipBit (f :: rest) k = (f ^^^ BitVec.ofNat 8 (2 ^ (7 - k))) :: rest := by
  rw [Spec.flipBit, Nat.div_eq_of_lt hk, Nat.mod_eq_of_lt hk]
  rfl

theorem head?_flipBit_of_le {k : Nat} (hk : 8 ≤ k) : (Spec.flipBit d k).head? = d.head? := by
  obtain ⟨i, hi⟩ := Nat.exists_eq_succ_of_ne_zero (show k / 8 ≠ 0 by omega)
  rw [Spec.flipBit, hi]
  cases d with
  | nil => rw [List.modify_nil]
  | cons f rest => rfl

/-- A string whose check field is wrong is refused, with the status of the first test that fails. -/
theorem decFrame_of_check_wrong (hne : d ≠ []) (hc : crcMatches d = false) :
    ∃ e : Failure, decFrame s d = .error e ∧
      (¬ Spec.flagKnown s d → e.status = .formatError) ∧
      (Spec.flagKnown s d → ¬ Spec.lengthFits s d → e.status = .lengthError) ∧
      (Spec.flagKnown s d → Spec.lengthFits s d → e.status = .integrityError) := by
  by_cases hk : Spec.flagKnown s d
  · by_cases hl : Spec.lengthFits s d
    · obtain ⟨kind, hs⟩ := flagKnown_iff_flagSays.1 hk
      have hh : decHead s d = .ok kind := decHead_eq_ok_iff.2 ⟨hs, hl⟩
      exact ⟨_, (decFrame_of_decHead hh).trans (decTail_of_check_wrong kind hc), absurd hk, fun _ => absurd hl,
        fun _ _ => rfl⟩
    · exact ⟨_, decFrame_of_decHead_error (decHead_of_length_wrong hk hl), absurd hk, fun _ _ => rfl,
        fun _ h => absurd h hl⟩
  · obtain ⟨f, rest, hd⟩ := List.exists_cons_of_ne_nil hne
    exact ⟨_, decFrame_of_decHead_error (decHead_of_flag_unknown hd hk), fun _ => rfl, fun h => absurd h hk,
      fun h => absurd h hk⟩

/-- Outside the flag byte the flag test and the length test find what they found before. -/
theorem decHead_flipBit_of_le {k : Nat} (hk : 8 ≤ k) {kind : FrameKind} (h : decHead s d = .ok kind) :
    Spec.flagKnown s (Spec.flipBit d k) ∧ Spec.lengthFits s (Spec.flipBit d k) := by
  obtain ⟨hs, hl⟩ := decHead_eq_ok_iff.1 h
  rw [Spec.flagKnown, Spec.lengthFits, head?_flipBit_of_le hk, length_flipBit]
  exact ⟨flagKnown_iff_flagSays.2 ⟨kind, hs⟩, hl⟩

/-- R160 for one accepted string. -/
theorem exec_dec_flipBit (hv : s.ctl.cfgValid = true) {x : FrameVal} (hx : decFrame s d = .ok x) {k : Nat}
    (hk : k < 8 * d.length) :
    ∃ t r, exec (.dec (Spec.flipBit d k)) s = .next t ∧ t.resp = some r ∧ r.value = .none ∧
      (8 ≤ k → r.status = .integrityError) ∧
      (k < 8 → ¬ Spec.flagKnown s (Spec.flipBit d k) → r.status = .formatError) ∧
      (k < 8 → Spec.flagKnown s (Spec.flipBit d k) → ¬ Spec.lengthFits s (Spec.flipBit d k) → r.status = .lengthError) ∧
      (k < 8 → Spec.flagKnown s (Spec.flipBit d k) → Spec.lengthFits s (Spec.flipBit d k) →
        r.status = .integrityError) := by
  obtain ⟨kind, hh, hc, -⟩ := decFrame_eq_ok_iff.1 hx
  have hlen := minFrame_le_of_lengthFits (decHead_eq_ok_iff.1 hh).2
  rw [minFrame] at hlen
  have hne : Spec.flipBit d k ≠ [] := List.ne_nil_of_length_pos (by rw [length_flipBit]; omega)
  obtain ⟨e, he, hformat, hlength, hintegrity⟩ :=
    decFrame_of_check_wrong (s := s) hne (crcMatches_flipBit (by omega) hk hc)
  refine ⟨_, _, exec_dec_of_error hv he, rfl, rfl, fun hle => ?_, fun _ => hformat, fun _ => hlength,
    fun _ => hintegrity⟩
  obtain ⟨hknown, hfits⟩ := decHead_flipBit_of_le hle hh
  exact hintegrity hknown hfits

/-! ### The example of R160 -/

/-- The status DEC gives the example with bit `k` inverted: bit 6 turns the flag 0x01 into 0x03, the Sync flag, and no
other bit of the first byte turns it into a flag. -/
def exampleStatus (k : Nat) : Status :=
  if 8 ≤ k then .integrityError else if k = 6 then .lengthError else .formatError

theorem exampleStatus_counts :
    (List.range 144).countP (fun k => exampleStatus k == .integrityError) = 136 ∧
    (List.range 144).countP (fun k => exampleStatus k == .formatError) = 7 ∧
    (List.range 144).countP (fun k => exampleStatus k == .lengthError) = 1 := by decide +kernel

/-- With the default flags no inverted bit of a Data flag but bit 6 gives a flag, and bit 6 gives the Sync flag. -/
theorem flagKnown_flipBit_default (hpar : s.par = Params.default) {rest : Bytes} {k : Nat} (hk : k < 8) :
    Spec.flagKnown s (Spec.flipBit (s.par.flagData :: rest) k) ↔ k = 6 := by
  rw [flipBit_cons_of_lt _ _ hk, Spec.flagKnown, hpar]
  simp only [List.head?_cons, Option.some.injEq, Params.default]
  revert k
  decide

/-- A Data frame with a payload is too long for any other flag. -/
theorem not_lengthFits_flipBit {rest : Bytes} {k : Nat} (hk : k < 8)
    (hlen : minFrame s.seqb < (s.par.flagData :: rest).length) :
    ¬ Spec.lengthFits s (Spec.flipBit (s.par.flagData :: rest) k) := by
  have hhead : (Spec.flipBit (s.par.flagData :: rest) k).head? ≠ some s.par.flagData := by
    rw [flipBit_cons_of_lt _ _ hk]
    exact fun h => xor_bit_ne _ (by omega) (Option.some.inj h)
  rw [lengthFits_of_not_data hhead, length_flipBit]
  exact hlen.ne'

/-- With the default flags an accepted Data frame with a payload is refused as the example is. -/
theorem exec_dec_flipBit_default (hv : s.ctl.cfgValid = true) (hpar : s.par = Params.default) {x : FrameVal}
    (hx : decFrame s d = .ok x) (hhead : d.head? = some s.par.flagData) (hlen : minFrame s.seqb < d.length) {k : Nat}
    (hk : k < 8 * d.length) :
    ∃ t r, exec (.dec (Spec.flipBit d k)) s = .next t ∧ t.resp = some r ∧ r.status = exampleStatus k := by
  obtain ⟨rest, rfl⟩ := List.head?_eq_some_iff.1 hhead
  obtain ⟨t, r, hexec, hresp, -, hrest, hformat, hlength, -⟩ := exec_dec_flipBit hv hx hk
  refine ⟨t, r, hexec, hresp, ?_⟩
  unfold exampleStatus
  split_ifs with hle hsix
  · exact hrest hle
  · have hlt := Nat.not_le.1 hle
    exact hlength hlt ((flagKnown_flipBit_default hpar hlt).2 hsix) (not_lengthFits_flipBit hlt hlen)
  · have hlt := Nat.not_le.1 hle
    exact hformat hlt fun hknown => hsix ((flagKnown_flipBit_default hpar hlt).1 hknown)

/-- Settles O16: an inverted bit makes the check field wrong, and leaves the flag and the length alone but in the first
byte; the example's statuses are counted. -/
theorem oneFlippedBitIsNeverAccepted : Obligations.OneFlippedBitIsNeverAccepted := by
  unfold Obligations.OneFlippedBitIsNeverAccepted
  refine ⟨fun s d x k hv hx hk => exec_dec_flipBit hv hx hk, fun s hv hpar hw hmaxp => ?_⟩
  extract_lets d count
  have hflag : s.par.flagData = 0x01 := by rw [hpar]; rfl
  have hseqb : s.seqb = 1 := by rw [State.seqb, hw]; rfl
  have hlen : d.length = 18 := (frameBytes_length ..).trans (by rw [hseqb]; rfl)
  have hx : decFrame s d = .ok (decValue s .data d) :=
    decFrame_built (hflag ▸ decHead_frameData (by rw [hmaxp]; decide)) (by rw [hw]; decide) (by decide)
  have hcount (st : Status) : count st = (List.range 144).countP fun k => exampleStatus k == st := by
    refine List.countP_congr fun k hk => ?_
    obtain ⟨t, r, hexec, hresp, hstatus⟩ := exec_dec_flipBit_default hv hpar hx (congrArg some hflag.symm)
      (by rw [hlen, hseqb]; decide) (by rw [hlen]; exact List.mem_range.1 hk)
    rw [hexec]
    simp [hresp, hstatus]
  simp only [hcount]
  exact exampleStatus_counts

end Sys2Proof.Proofs
end

section
/-! The sender's operations in the words of the statements: when a transfer is active, when the window is unhealthy, what
an emptied window holds; the refusals (42 R182, R190, R201), the timeout check (42 R189) and TX.ABORT (42 R201). -/

namespace Sys2Proof.Proofs

open Sys2Proof.Machine

variable {s t : State}

/-! ## When an operation may run -/

theorem active_iff : s.active = true ↔ Spec.transfers s := by
  simp [State.active, Spec.transfers]

theorem active_eq_false_iff : s.active = false ↔ ¬ Spec.transfers s := by
  rw [← active_iff, Bool.not_eq_true]

/-- The test that TX.POLL and TX.ABORT begin with (42 R190, R201). -/
theorem not_mayPoll_iff : (s.ctl.cfgValid = false ∨ s.active = false) ↔ ¬ Spec.mayPoll s := by
  rw [active_eq_false_iff, Spec.mayPoll, Classical.not_and_iff_not_or_not, Bool.not_eq_true]

/-- While SRC keeps its contract no chunk it will answer is longer than MAXP (42 R181). -/
theorem chunk_le_of_srcKeepsContract (h : srcKeepsContract s = true) :
    ∀ c, SrcAnswer.chunk c ∈ s.src → c.length ≤ s.maxp := by
  intro c hc
  simpa using List.all_eq_true.1 h _ hc

/-! ## Refusals -/

theorem exec_txStart_of_transfers (hv : s.ctl.cfgValid = true) (ht : Spec.transfers s) (d : PeerId) :
    exec (.txStart d) s = .next (raiseState 0x10 { peer := some d } s) := by
  simp only [exec, execTxStart, hv, active_iff.2 ht, Bool.true_eq_false, if_false, if_true]

theorem exec_txStart_of_local (hv : s.ctl.cfgValid = true) (ht : ¬ Spec.transfers s) {d : PeerId} (hd : d = s.localId) :
    exec (.txStart d) s = .next (raise 0x10 .peerIdentityCollision (.collision d) { peer := some d } s) := by
  simp [exec, execTxStart, hv, active_eq_false_iff.2 ht, if_pos hd]

theorem exec_txPoll_of_not_mayPoll (h : ¬ Spec.mayPoll s) (now : Nat) : exec (.txPoll now) s = .next (refusePoll s) :=
  if_pos (not_mayPoll_iff.2 h)

theorem exec_txAbort_of_not_mayPoll (h : ¬ Spec.mayPoll s) : exec .txAbort s = .next (raiseState 0x12 {} s) :=
  if_pos (not_mayPoll_iff.2 h)

/-- Settles O26: each operation tests the transfer first, TX.START the destination after it. -/
theorem senderRefusesInTheWrongState : Obligations.SenderRefusesInTheWrongState := by
  unfold Obligations.SenderRefusesInTheWrongState
  intro s d now hv
  refine ⟨fun ht => exec_txStart_of_transfers hv ht d, fun ht hd => exec_txStart_of_local hv ht hd, fun ht => ?_⟩
  have hmay : ¬ Spec.mayPoll s := fun h => ht h.2
  exact ⟨exec_txPoll_of_not_mayPoll hmay now, exec_txAbort_of_not_mayPoll hmay⟩

/-! ## The timeout check -/

/-- The wrapping difference of two stamps is the difference of the times modulo 2^TS_BITS (42 R189). -/
theorem elapsed_eq_emod (now : Nat) (v : Slot) (s : State) :
    (elapsed now v s : Int) = ((now : Int) - (v.sendTime : Int)) % ((2 ^ s.par.tsBits : Nat) : Int) := by
  have hpos : 0 < 2 ^ s.par.tsBits := Nat.two_pow_pos _
  unfold elapsed State.stamp
  generalize 2 ^ s.par.tsBits = m at hpos ⊢
  have hle : v.sendTime % m ≤ now % m + m := (Nat.mod_lt _ hpos).le.trans (Nat.le_add_left _ _)
  rw [Int.natCast_emod, Int.ofNat_sub hle, Int.natCast_add, Int.natCast_emod, Int.natCast_emod, Int.sub_emod,
    Int.add_emod_right, Int.emod_emod, Int.emod_emod, ← Int.sub_emod]

theorem healthy_eq_false_iff {now : Nat} : healthy now s = false ↔ Spec.unhealthy now s := by
  rw [Spec.unhealthy, ← elapsed_eq_emod, Int.ofNat_lt]
  simp only [healthy]
  cases (s.slot s.beginPoint).valid <;> cases (s.slot s.beginPoint).stamped <;> simp

theorem healthy_eq_true_iff {now : Nat} : healthy now s = true ↔ ¬ Spec.unhealthy now s := by
  rw [← healthy_eq_false_iff, Bool.not_eq_false]

theorem exec_txTochk (now : Nat) (s : State) :
    exec (.txTochk now) s = .next (Spec.reply .ok (.bit (healthy now s)) s) := rfl

/-- Settles O29: TX.TOCHK answers `healthy`, which is the wrapping comparison of R189. -/
theorem txTochkJudgesTheOldestSlot : Obligations.TxTochkJudgesTheOldestSlot := by
  unfold Obligations.TxTochkJudgesTheOldestSlot
  intro s now
  rw [exec_txTochk]
  exact ⟨fun h => by rw [healthy_eq_false_iff.2 h], fun h => by rw [healthy_eq_true_iff.2 h]⟩

/-! ## Empty slots -/

theorem isEmpty_blank : Spec.isEmpty Slot.blank := ⟨rfl, rfl, rfl, rfl⟩

theorem isEmpty_slotEmptied (x : Slot) : Spec.isEmpty (slotEmptied x) := ⟨rfl, rfl, rfl, rfl⟩

/-- Every slot of a released window is EMPTY, whatever the form of the slot file (42 R183, R192, R201). -/
theorem isEmpty_slotsEmptyTo (w : Nat) (m : List (Nat × Slot)) {i : Nat} (h : i ≤ w) :
    Spec.isEmpty (slotRead (slotsEmptyTo w m) i) := by
  induction m with
  | nil => exact isEmpty_blank
  | cons e rest ih =>
    obtain ⟨k, x⟩ := e
    have hskip : ∀ y, k ≠ i → slotRead ((k, y) :: slotsEmptyTo w rest) i = slotRead (slotsEmptyTo w rest) i :=
      fun y hk => by simp [slotRead, tableFind, hk]
    unfold slotsEmptyTo
    split
    · rw [hskip x (by omega)]; exact ih
    · split
      · exact ih
      · by_cases hk : k = i
        · simpa [slotRead, tableFind, hk] using isEmpty_slotEmptied x
        · rw [hskip _ hk]; exact ih

theorem slot_releaseWindow_isEmpty {i : Nat} (h : i ≤ s.w) : Spec.isEmpty ((releaseWindow s).slot i) :=
  isEmpty_slotsEmptyTo s.w s.tx.slots h

/-! ## TX.ABORT -/

theorem exec_txAbort_of_mayPoll (h : Spec.mayPoll s) :
    exec .txAbort s = .next (respond .ok .none (setTxState .done (setAborted (releaseWindow s)))) :=
  if_neg fun hn => not_mayPoll_iff.1 hn h

/-- Settles O37: TX.ABORT is a release of the window with two registers set. -/
theorem txAbortReleasesTheWindow : Obligations.TxAbortReleasesTheWindow := by
  unfold Obligations.TxAbortReleasesTheWindow
  intro s h
  exact ⟨_, exec_txAbort_of_mayPoll h, rfl, fun _ hi => slot_releaseWindow_isEmpty hi,
    fun _ hi => slot_releaseWindow_beyond hi⟩

end Sys2Proof.Proofs
end

section
/-! The fill loop in closed form (42 R184, R188): which chunks it takes, what it records of EOS, which slots it fills and
which it leaves; from it TX.START (42 R182 to R185) and TX.SLIDE (42 R186 to R188). -/

namespace Sys2Proof.Proofs

open Sys2Proof.Machine

variable {s t : State}

/-! ## Cyclic ranges by place, 00 R14 -/

section
variable {n a k : Nat}

theorem getElem?_cycFrom (ha : a < n) {j : Nat} (hj : j < k) : (cycFrom n a k)[j]? = some ((a + j) % n) := by
  induction k generalizing a j with
  | zero => omega
  | succ k ih =>
    cases j with
    | zero => simp [cycFrom, Nat.mod_eq_of_lt ha]
    | succ j =>
      rw [cycFrom, List.getElem?_cons_succ, ih (cycInc_lt (by omega) a) (by omega), cycInc, Nat.mod_add_mod,
        Nat.add_assoc, Nat.add_comm 1 j]

theorem mem_cycFrom_iff_exists (ha : a < n) {x : Nat} : x ∈ cycFrom n a k ↔ ∃ j < k, x = (a + j) % n := by
  rw [List.mem_iff_getElem?]
  constructor
  · rintro ⟨j, hj⟩
    have hlt : j < k := by
      obtain ⟨hlt, -⟩ := List.getElem?_eq_some_iff.1 hj
      rwa [cycFrom_length] at hlt
    rw [getElem?_cycFrom ha hlt] at hj
    exact ⟨j, hlt, (Option.some.inj hj).symm⟩
  · rintro ⟨j, hlt, rfl⟩
    exact ⟨j, getElem?_cycFrom ha hlt⟩

theorem take_cycFrom {m : Nat} (h : m ≤ k) : (cycFrom n a k).take m = cycFrom n a m := by
  induction m generalizing a k with
  | zero => rfl
  | succ m ih =>
    cases k with
    | zero => omega
    | succ k => rw [cycFrom, List.take_succ_cons, ih (by omega), cycFrom]

/-- Fewer than `n` steps apart, places on the circle are told apart. -/
theorem add_mod_inj {i j : Nat} (hi : i < n) (hj : j < n) (h : (a + i) % n = (a + j) % n) : i = j :=
  Nat.ModEq.eq_of_lt_of_lt (Nat.ModEq.add_left_cancel' a h) hi hj

theorem add_mod_eq_self_iff (ha : a < n) (hk : k < n) : (a + k) % n = a ↔ k = 0 := by
  refine ⟨fun h => add_mod_inj (a := a) hk (by omega) ?_, fun h => ?_⟩
  · rw [h, Nat.add_zero, Nat.mod_eq_of_lt ha]
  · rw [h, Nat.add_zero, Nat.mod_eq_of_lt ha]

theorem nodup_cycFrom (ha : a < n) (hk : k ≤ n) : (cycFrom n a k).Nodup := by
  induction k generalizing a with
  | zero => exact .nil
  | succ k ih =>
    have hinc : cycInc n a < n := cycInc_lt (by omega) a
    refine List.nodup_cons.2 ⟨fun hmem => ?_, ih hinc (by omega)⟩
    obtain ⟨j, hj, he⟩ := (mem_cycFrom_iff_exists hinc).1 hmem
    rw [cycInc, Nat.mod_add_mod, Nat.add_assoc] at he
    have hzero := (add_mod_eq_self_iff ha (by omega)).1 he.symm
    omega

/-- `cyc(a, b]` holds the places 1 to `cdist(a, b)` from `a`. -/
theorem mem_cycRangeOpen_iff_exists {b x : Nat} (ha : a < n) (hb : b < n) :
    x ∈ cycRangeOpen n a b ↔ ∃ j, 1 ≤ j ∧ j ≤ cycDist n a b ∧ x = (a + j) % n := by
  rw [cycRangeOpen, cycRange, cycDist_cycInc ha hb, mem_cycFrom_iff_exists (cycInc_lt (by omega) a)]
  simp only [cycInc, Nat.mod_add_mod, Nat.add_assoc]
  constructor
  · rintro ⟨j, hj, rfl⟩
    exact ⟨1 + j, by omega, by omega, rfl⟩
  · rintro ⟨j, hpos, hj, rfl⟩
    exact ⟨j - 1, by omega, by rw [Nat.add_sub_cancel' hpos]⟩

theorem cycRange_self (n a : Nat) : cycRange n a a = [] := by rw [cycRange, cycDist_self]; rfl

end

/-! ## The fill loop in closed form -/

/-- The chunks a fill loop over `k` slots takes: those SRC answers before EOS, none once it is exhausted. -/
def chunksTaken (k : Nat) (s : State) : List Bytes := if s.tx.exhausted then [] else Spec.leadingChunks k s.src

/-- A fill loop over `k` slots meets EOS. -/
def meetsEos (k : Nat) (s : State) : Bool := decide (s.tx.exhausted = false ∧ (chunksTaken k s).length < k)

theorem length_leadingChunks_le (k : Nat) (l : List SrcAnswer) : (Spec.leadingChunks k l).length ≤ k := by
  induction k generalizing l with
  | zero => rfl
  | succ k ih =>
    match l with
    | [] | .eos :: _ => exact Nat.zero_le _
    | .chunk c :: rest => exact Nat.succ_le_succ (ih rest)

theorem length_chunksTaken_le (k : Nat) (s : State) : (chunksTaken k s).length ≤ k := by
  unfold chunksTaken
  split
  · exact Nat.zero_le _
  · exact length_leadingChunks_le k s.src

/-- The state after one pass of the fill loop. -/
def afterChunk (i : Nat) (c : Bytes) (s : State) : State := fillSlot i c { s with src := s.src.drop 1 }

theorem afterChunk_src (i : Nat) (c : Bytes) (s : State) : (afterChunk i c s).src = s.src.drop 1 :=
  fillSlot_src i c { s with src := s.src.drop 1 }

theorem afterChunk_frame (i : Nat) (c : Bytes) (s : State) : SameButFill s (afterChunk i c s) :=
  (withSrc_frame _ s).trans (fillSlot_frame i c _)

/-- The three ways a fill loop over `i :: is` goes, with the chunks it takes over `k + 1` slots in each: SRC is exhausted
already, it meets EOS, or it fills `i` and goes on (42 R184, R188). -/
theorem refill_cons_cases {i : Nat} {is : List Nat} (h : refill (i :: is) s = .ok t) (k : Nat) :
    (chunksTaken (k + 1) s = [] ∧ meetsEos (k + 1) s = false ∧ t = s) ∨
    (chunksTaken (k + 1) s = [] ∧ meetsEos (k + 1) s = true ∧ t = markExhausted i { s with src := s.src.drop 1 }) ∨
    ∃ c, chunksTaken (k + 1) s = c :: chunksTaken k (afterChunk i c s) ∧
      meetsEos (k + 1) s = meetsEos k (afterChunk i c s) ∧ refill is (afterChunk i c s) = .ok t := by
  rw [refill_cons] at h
  split at h
  · next hx => cases h; exact .inl ⟨by simp [chunksTaken, hx], by simp [meetsEos, hx], rfl⟩
  · next hx =>
    have hx : s.tx.exhausted = false := by simpa using hx
    refine .inr ?_
    match hs : s.src with
    | [] | .eos :: rest =>
      rw [hs] at h
      cases h
      have htaken : chunksTaken (k + 1) s = [] := by simp [chunksTaken, hx, hs, Spec.leadingChunks]
      exact .inl ⟨htaken, by simp [meetsEos, hx, htaken], rfl⟩
    | .chunk c :: rest =>
      rw [hs] at h
      have hsrc : (afterChunk i c s).src = rest := by rw [afterChunk_src, hs]; rfl
      have hx' : (afterChunk i c s).tx.exhausted = false := hx
      have htaken : chunksTaken (k + 1) s = c :: chunksTaken k (afterChunk i c s) := by
        simp [chunksTaken, hx, hx', hs, hsrc, Spec.leadingChunks]
      refine .inr ⟨c, htaken, by simp [meetsEos, hx, hx', htaken], ?_⟩
      simp only [pullSrc] at h
      split at h
      · cases h
      · rw [afterChunk, hs]; exact h

/-- What a fill loop over `is` leaves in SRC, in the exhaustion record and in the slots. -/
structure Refilled (is : List Nat) (s t : State) : Prop where
  src : t.src = s.src.drop
    (if meetsEos is.length s then (chunksTaken is.length s).length + 1 else (chunksTaken is.length s).length)
  exhausted : t.tx.exhausted = (s.tx.exhausted || meetsEos is.length s)
  eosValid : t.tx.eosValid = (s.tx.eosValid || meetsEos is.length s)
  eos : t.tx.eos = if meetsEos is.length s then is.getD (chunksTaken is.length s).length 0 else s.tx.eos
  filled : is.Nodup → ∀ (j : Nat) (c : Bytes) (i : Nat), (chunksTaken is.length s)[j]? = some c → is[j]? = some i →
    Spec.isFilled s s.tx.dest i c (t.slot i)
  left : ∀ i ∉ is.take (chunksTaken is.length s).length, t.slot i = s.slot i

theorem Refilled.of_afterChunk {i : Nat} {is : List Nat} {c : Bytes} (h : Refilled is (afterChunk i c s) t)
    (htaken : chunksTaken (is.length + 1) s = c :: chunksTaken is.length (afterChunk i c s))
    (hmeets : meetsEos (is.length + 1) s = meetsEos is.length (afterChunk i c s)) : Refilled (i :: is) s t where
  src := by
    rw [h.src, afterChunk_src, List.drop_drop, List.length_cons, htaken, hmeets, List.length_cons]
    congr 1
    split <;> omega
  exhausted := by rw [h.exhausted, List.length_cons, hmeets]; rfl
  eosValid := by rw [h.eosValid, List.length_cons, hmeets]; rfl
  eos := by rw [h.eos, List.length_cons, htaken, hmeets]; rfl
  filled hnodup j c' i' hc hi := by
    obtain ⟨hnot, hnodup⟩ := List.nodup_cons.1 hnodup
    have hframe := afterChunk_frame i c s
    rw [List.length_cons, htaken] at hc
    cases j with
    | zero =>
      cases hc
      cases hi
      rw [h.left i fun hmem => hnot (List.mem_of_mem_take hmem)]
      exact slot_fillSlot_same i c { s with src := s.src.drop 1 }
    | succ j => exact (isFilled_of_cfg hframe.par hframe.cfg).1 (h.filled hnodup j c' i' hc hi)
  left i' hi' := by
    rw [List.length_cons, htaken, List.length_cons, List.take_succ_cons, List.mem_cons, not_or] at hi'
    exact (h.left i' hi'.2).trans (slot_fillSlot_other c hi'.1)

/-- A fill loop that takes no chunk and meets no EOS has done nothing. -/
theorem Refilled.of_none {is : List Nat} (htaken : chunksTaken is.length s = []) (hmeets : meetsEos is.length s = false) :
    Refilled is s s :=
  ⟨by simp [htaken, hmeets], by simp [hmeets], by simp [hmeets], by simp [hmeets], by simp [htaken], fun _ _ => rfl⟩

theorem Refilled.of_eos {i : Nat} {is : List Nat} (htaken : chunksTaken (is.length + 1) s = [])
    (hmeets : meetsEos (is.length + 1) s = true) :
    Refilled (i :: is) s (markExhausted i { s with src := s.src.drop 1 }) :=
  ⟨by simp [htaken, hmeets, markExhausted], by simp [hmeets, markExhausted], by simp [hmeets, markExhausted],
    by simp [htaken, hmeets, markExhausted], by simp [htaken], fun _ _ => rfl⟩

theorem refill_refilled {is : List Nat} (h : refill is s = .ok t) : Refilled is s t := by
  induction is generalizing s with
  | nil =>
    cases h
    exact .of_none (List.length_eq_zero_iff.1 (Nat.le_zero.1 (length_chunksTaken_le 0 _))) (by simp [meetsEos])
  | cons i is ih =>
    rcases refill_cons_cases h is.length with ⟨htaken, hmeets, rfl⟩ | ⟨htaken, hmeets, rfl⟩ | ⟨c, htaken, hmeets, h⟩
    · exact .of_none htaken hmeets
    · exact .of_eos htaken hmeets
    · exact (ih h).of_afterChunk htaken hmeets

/-- What a frame of `SameButFill` says as one equation. -/
theorem eq_of_sameButFill (h : SameButFill s t) :
    t = { s with
      src := t.src
      hid := { s.hid with acc := t.hid.acc }
      tx := { s.tx with
        slots := t.tx.slots, exhausted := t.tx.exhausted, eosValid := t.tx.eosValid, eos := t.tx.eos } } := by
  cases t
  simp only [State.mk.injEq]
  exact ⟨h.par, h.cfg, h.ctl, h.tx, h.rxTab, h.ackTab, h.hid, h.requests, h.line, trivial, h.txf, h.sink, h.log, h.resp,
    h.free⟩

/-- The state a fill loop over `k` places from `a` leaves, but for the slots and the accumulator. -/
theorem refill_eq {n a k : Nat} (ha : a < n) (h : refill (cycFrom n a k) s = .ok t) :
    t = { s with
      src := s.src.drop (if meetsEos k s then (chunksTaken k s).length + 1 else (chunksTaken k s).length)
      hid := { s.hid with acc := t.hid.acc }
      tx := { s.tx with
        slots := t.tx.slots
        exhausted := s.tx.exhausted || meetsEos k s
        eosValid := s.tx.eosValid || meetsEos k s
        eos := if meetsEos k s then (a + (chunksTaken k s).length) % n else s.tx.eos } } := by
  have hr := refill_refilled h
  have heq := eq_of_sameButFill (refill_frame h)
  have heos : meetsEos k s = true →
      (cycFrom n a k).getD (chunksTaken k s).length 0 = (a + (chunksTaken k s).length) % n := fun hm => by
    rw [List.getD_eq_getElem?_getD, getElem?_cycFrom ha (of_decide_eq_true hm).2, Option.getD_some]
  rwa [hr.src, hr.exhausted, hr.eosValid, hr.eos, cycFrom_length, if_ctx_congr Iff.rfl heos fun _ => rfl] at heq

/-- A fill loop over `k` places from `a` fills place `j` with chunk `j`. -/
theorem slot_refill_filled {n a k : Nat} (ha : a < n) (hk : k < n) (h : refill (cycFrom n a k) s = .ok t) {j : Nat}
    {c : Bytes} (hc : (chunksTaken k s)[j]? = some c) :
    Spec.isFilled s s.tx.dest ((a + j) % n) c (t.slot ((a + j) % n)) := by
  obtain ⟨hj, -⟩ := List.getElem?_eq_some_iff.1 hc
  rw [← cycFrom_length n a k] at hc
  exact (refill_refilled h).filled (nodup_cycFrom ha hk.le) j c _ hc
    (getElem?_cycFrom ha (hj.trans_le (length_chunksTaken_le k s)))

/-- A fill loop over `k` places from `a` leaves every slot for which it has no chunk. -/
theorem slot_refill_left {n a k : Nat} (ha : a < n) (h : refill (cycFrom n a k) s = .ok t) {i : Nat}
    (hi : ∀ j < (chunksTaken k s).length, i ≠ (a + j) % n) : t.slot i = s.slot i := by
  refine (refill_refilled h).left i ?_
  rw [cycFrom_length, take_cycFrom (length_chunksTaken_le k s), mem_cycFrom_iff_exists ha]
  rintro ⟨j, hj, he⟩
  exact hi j hj he

/-! ## TX.START -/

theorem exec_txStart_of_refill (hv : s.ctl.cfgValid = true) (ht : ¬ Spec.transfers s) {d : PeerId} (hd : d ≠ s.localId)
    (h : refill (cycFrom s.n s.initSeq s.w) (startRegisters d s) = .ok t) :
    exec (.txStart d) s = .next (respond .ok .none (startState t)) := by
  simp [exec, execTxStart, hv, active_eq_false_iff.2 ht, hd, h]

/-- `txState` by what SRC answered: DONE if EOS came first, DRAIN if it came later, FILL if it did not come (42 R185). -/
theorem startTxState_eq {a m w : Nat} {ended : Bool} (ha : a ≤ w) (hm : ended = true → m < w) :
    (if ended then (if m = 0 then TxState.done else .drain) else .fill) =
      if ended then (if (if ended then (a + m) % (w + 1) else 0) = a then .done else .drain) else .fill := by
  cases ended with
  | false => rfl
  | true =>
    have hlt : m < w := hm rfl
    have hself : (a + m) % (w + 1) = a ↔ m = 0 := add_mod_eq_self_iff (by omega) (by omega)
    simp only [if_true, hself]

/-- The fill loop of TX.START takes the leading chunks of SRC. -/
theorem chunksTaken_startRegisters (d : PeerId) (s : State) (k : Nat) :
    chunksTaken k (startRegisters d s) = Spec.leadingChunks k s.src := rfl

theorem meetsEos_startRegisters (d : PeerId) (s : State) (k : Nat) :
    meetsEos k (startRegisters d s) = decide ((Spec.leadingChunks k s.src).length < k) := by
  rw [meetsEos, chunksTaken_startRegisters]
  exact decide_eq_decide.2 (and_iff_right rfl)

/-- Settles O25: the fill loop runs over the W places from INIT in a window just emptied. -/
theorem txStartFillsTheWindow : Obligations.TxStartFillsTheWindow := by
  unfold Obligations.TxStartFillsTheWindow
  intro s d hv ht hd hinit hsrc cs ended
  have hlt : s.initSeq < s.n := Nat.lt_succ_iff.2 hinit
  have hw : s.w < s.n := Nat.lt_succ_self _
  obtain ⟨s1, h1⟩ : ∃ s1, refill (cycFrom s.n s.initSeq s.w) (startRegisters d s) = .ok s1 :=
    refill_ok (chunk_le_of_srcKeepsContract hsrc :)
  have hle : cs.length ≤ s.w := length_leadingChunks_le _ _
  have hleft : ∀ i, (∀ j < cs.length, i ≠ (s.initSeq + j) % (s.w + 1)) → s1.slot i = (releaseWindow s).slot i :=
    fun i hi => slot_refill_left hlt h1 hi
  refine ⟨_, exec_txStart_of_refill hv ht hd h1, ?_, fun k c hc => slot_refill_filled hlt hw h1 hc, ?_, ?_⟩
  · have heq := refill_eq hlt h1
    rw [meetsEos_startRegisters, chunksTaken_startRegisters] at heq
    rw [startTxState_eq hinit of_decide_eq_true]
    exact congrArg (fun x => respond .ok .none (startState x)) heq
  · intro k hk hkw
    have hout : ∀ j < cs.length, (s.initSeq + k) % (s.w + 1) ≠ (s.initSeq + j) % (s.w + 1) := fun j hj he => by
      have hkj : k = j := add_mod_inj (Nat.lt_succ_iff.2 hkw) (by omega) he
      omega
    have hslot : (s.initSeq + k) % (s.w + 1) ≤ s.w := Nat.lt_succ_iff.1 (Nat.mod_lt _ (Nat.succ_pos _))
    show Spec.isEmpty (s1.slot _)
    rw [hleft _ hout]
    exact slot_releaseWindow_isEmpty hslot
  · intro i hi
    have hout : ∀ j < cs.length, i ≠ (s.initSeq + j) % (s.w + 1) := fun j _ he => by
      have hmod : (s.initSeq + j) % (s.w + 1) < s.w + 1 := Nat.mod_lt _ (Nat.succ_pos _)
      omega
    exact (hleft i hout).trans (slot_releaseWindow_beyond hi)

/-! ## TX.SLIDE -/

theorem exec_txSlide_of_slideTo {a : Nat} (h : slideTo (numberTaken a s) (noteNumber a s) = .ok t) :
    exec (.txSlide a) s = .next (respond .ok .none t) := by
  simp only [exec, execTxSlide, h]

theorem exec_txSlide_of_le {a : Nat} (ha : a ≤ s.w) (h : slideTo a s = .ok t) :
    exec (.txSlide a) s = .next (respond .ok .none t) :=
  exec_txSlide_of_slideTo (by rw [numberTaken_of_le ha, noteNumber_of_le ha, h])

/-- A slide to `unusedPoint` itself does nothing. -/
theorem slideTo_self (s : State) : slideTo s.tx.unusedPoint s = .ok s := by
  simp only [slideTo, cycRangeOpen, cycRange_self, refill]
  rfl

theorem isEmpty_foldl_slotEmpty {js : List Nat} {m : List (Nat × Slot)} {i : Nat} (hm : slotsWf m = true)
    (hi : i ∈ js ∨ Spec.isEmpty (slotRead m i)) : Spec.isEmpty (slotRead (js.foldl slotEmpty m) i) := by
  induction js generalizing m with
  | nil => simpa using hi
  | cons j js ih =>
    refine ih (slotEmpty_wf m j hm) ?_
    by_cases hij : i = j
    · subst hij
      rw [slotEmpty, slotRead_write_same m i _ hm]
      exact .inr (isEmpty_slotEmptied _)
    · rw [slotEmpty, slotRead_write_other m _ hij]
      exact hi.imp_left fun hmem => (List.mem_cons.1 hmem).resolve_left hij

/-- The free step empties its slots (42 R187). -/
theorem slot_freeSlots_isEmpty {js : List Nat} {i : Nat} (hs : slotsWf s.tx.slots = true) (hi : i ∈ js) :
    Spec.isEmpty ((freeSlots js s).slot i) :=
  isEmpty_foldl_slotEmpty hs (.inl hi)

/-- Settles O27: the free step empties the places 1 to D from `unusedPoint`, and the fill loop runs over the places before
D. -/
theorem txSlideFreesAndRefills : Obligations.TxSlideFreesAndRefills := by
  unfold Obligations.TxSlideFreesAndRefills
  intro s a hwf ha hunused hsrc u k cs met
  have hu : u < s.n := Nat.lt_succ_iff.2 hunused
  have han : a < s.n := Nat.lt_succ_iff.2 ha
  have hk : k < s.n := cycDist_lt (n_pos s) u a
  have hle : cs.length ≤ k := length_chunksTaken_le k s
  obtain ⟨t, ht⟩ := slideTo_ok (a := a) (chunk_le_of_srcKeepsContract hsrc)
  obtain ⟨s1, h1, -, rfl⟩ := slideTo_cases ht
  have hleft : ∀ i, (∀ j < cs.length, i ≠ (u + j) % s.n) → s1.slot i = (freeSlots (cycRangeOpen s.n u a) s).slot i :=
    fun i hi => slot_refill_left hu h1 hi
  have hfreed : ∀ i, i ∈ cycRangeOpen s.n u a ↔ ∃ j, 1 ≤ j ∧ j ≤ k ∧ i = (u + j) % s.n :=
    fun i => mem_cycRangeOpen_iff_exists hu han
  refine ⟨_, exec_txSlide_of_le ha ht, ?_, fun j c hc => slot_refill_filled hu hk h1 hc, ?_, ?_, ?_, ?_⟩
  · have heq := refill_eq hu h1
    exact congrArg (fun x : State => respond .ok .none { x with tx := { x.tx with unusedPoint := a } }) heq
  · intro j hpos hjk hj
    have hout : ∀ j' < cs.length, (u + j) % s.n ≠ (u + j') % s.n := fun j' hj' he => by
      have hjj : j = j' := add_mod_inj (by omega) (by omega) he
      omega
    show Spec.isEmpty (s1.slot _)
    rw [← State.n, hleft _ hout]
    exact slot_freeSlots_isEmpty hwf ((hfreed _).2 ⟨j, hpos, hjk, rfl⟩)
  · intro hnone
    have hout : u ∉ cycRangeOpen s.n u a := fun hmem => by
      obtain ⟨j, hpos, hjk, he⟩ := (hfreed u).1 hmem
      have hzero := (add_mod_eq_self_iff hu (by omega)).1 he.symm
      omega
    exact (hleft u (by simp [hnone])).trans (slot_freeSlots_other hout)
  · intro i hi
    have hout : i ∉ cycRangeOpen s.n u a := fun hmem => by
      obtain ⟨j, -, hjk, he⟩ := (hfreed i).1 hmem
      exact hi j hjk he
    exact (hleft i fun j hj => hi j (hj.le.trans hle)).trans (slot_freeSlots_other hout)
  · rintro rfl
    exact congrArg (respond .ok .none) (Except.ok.inj (ht.symm.trans (slideTo_self s)))

end Sys2Proof.Proofs
end

section
/-! TX.POLL (42 R190 to R200): the poll in the words of the statements, what the rewind and the transmission leave in each
slot, and the statements about one poll. -/

namespace Sys2Proof.Proofs

open Sys2Proof.Machine

variable {s t s1 : State} {now a : Nat}

/-! ## A poll that runs -/

theorem exec_txPoll_of_none (h : Spec.mayPoll s) (hack : Spec.ackFor s = none) (now : Nat) :
    exec (.txPoll now) s =
      .next (pollAfterSlide now s.tx.cursor 0 (cycDist s.n s.tx.unusedPoint s.tx.cursor) none (drainAcks s)) := by
  have hrun := fun hn => not_mayPoll_iff.1 hn h
  have hposted : postedAck s = none := hack
  simp only [exec, execTxPoll, if_neg hrun, hposted, Option.map_none, pollSlide, notePosted]

theorem exec_txPoll_of_some (h : Spec.mayPoll s) (hack : Spec.ackFor s = some a)
    (h1 : slideTo (numberTaken a s) (drainAcks (noteNumber a s)) = .ok s1) (now : Nat) :
    exec (.txPoll now) s =
      .next (pollAfterSlide now s.tx.cursor (cycDist s.n s.tx.unusedPoint (numberTaken a s))
        (cycDist s.n s.tx.unusedPoint s.tx.cursor) (some (numberTaken a s)) s1) := by
  have hrun := fun hn => not_mayPoll_iff.1 hn h
  have hposted : postedAck s = some a := hack
  simp only [exec, execTxPoll, if_neg hrun, hposted, Option.map_some, pollSlide, notePosted, h1]

theorem exec_txPoll_of_le (h : Spec.mayPoll s) (hack : Spec.ackFor s = some a) (ha : a ≤ s.w)
    (h1 : slideTo a { s with ackTab := [] } = .ok s1) (now : Nat) :
    exec (.txPoll now) s =
      .next (pollAfterSlide now s.tx.cursor (cycDist s.n s.tx.unusedPoint a)
        (cycDist s.n s.tx.unusedPoint s.tx.cursor) (some a) s1) := by
  have h1' : slideTo (numberTaken a s) (drainAcks (noteNumber a s)) = .ok s1 := by
    rw [numberTaken_of_le ha, noteNumber_of_le ha]; exact h1
  rw [exec_txPoll_of_some h hack h1', numberTaken_of_le ha]

/-! ## What follows the slide -/

theorem isTerminal_some : isTerminal (some a) s = true ↔ Spec.terminal a s := by
  simp [isTerminal, Spec.terminal, cycAdd, State.n]

theorem isTerminal_some_eq_false : isTerminal (some a) s = false ↔ ¬ Spec.terminal a s := by
  rw [← isTerminal_some, Bool.not_eq_true]

theorem noteExhaustion_eq_judged (h : s.ackTab = []) : noteExhaustion s = Spec.judged s := by
  rw [noteExhaustion_eq, Spec.judged, ← h]
  rfl

theorem noteExhaustion_drainAcks (s : State) : noteExhaustion (drainAcks s) = Spec.judged s :=
  noteExhaustion_eq_judged rfl

theorem healthy_noteExhaustion (now : Nat) (s : State) : healthy now (noteExhaustion s) = healthy now s := by
  rw [noteExhaustion_eq]
  rfl

section
variable {oldC dAck dCur : Nat} {ack : Option Nat}

theorem pollAfterSlide_of_terminal (h : isTerminal ack s = true) :
    pollAfterSlide now oldC dAck dCur ack s =
      pollReturn .pollDone (.number (ack.getD 0)) none none ack (endTransfer s) :=
  if_pos h

theorem pollAfterSlide_of_unhealthy (h : isTerminal ack s = false) (hu : Spec.unhealthy now s) :
    pollAfterSlide now oldC dAck dCur ack s = pollRewind oldC dAck dCur ack (noteExhaustion s) := by
  have hhealth := (healthy_noteExhaustion now s).trans (healthy_eq_false_iff.2 hu)
  rw [pollAfterSlide, if_neg (by simp [h])]
  exact if_pos hhealth

theorem pollAfterSlide_of_healthy (h : isTerminal ack s = false) (hu : ¬ Spec.unhealthy now s) :
    pollAfterSlide now oldC dAck dCur ack s = pollSend now ack (normalise dAck dCur (noteExhaustion s)) := by
  have hhealth := (healthy_noteExhaustion now s).trans (healthy_eq_true_iff.2 hu)
  rw [pollAfterSlide, if_neg (by simp [h])]
  exact if_neg (by rw [← noteExhaustion, hhealth]; simp)

/-! ## The healthy poll -/

theorem pollSend_of_caughtUp (h : s.tx.cursor = s.tx.unusedPoint) :
    pollSend now ack s = pollReturn .pollIdle .none none none ack s :=
  if_pos h

theorem pollSend_of_empty (h : s.tx.cursor ≠ s.tx.unusedPoint) (hv : (s.slot s.tx.cursor).valid = false) :
    pollSend now ack s =
      pollReturn .pollSkip (.number s.tx.cursor) (some s.tx.cursor) none ack (setCursor (cycInc s.n s.tx.cursor) s) :=
  (if_neg h).trans (if_pos hv)

theorem pollSend_of_valid (h : s.tx.cursor ≠ s.tx.unusedPoint) (hv : (s.slot s.tx.cursor).valid = true) :
    pollSend now ack s =
      pollReturn .pollSent (.sent s.tx.cursor (s.slot s.tx.cursor).status) (some s.tx.cursor)
        (some (s.slot s.tx.cursor).status) ack (transmit now s) :=
  (if_neg h).trans (if_neg (by simp [hv]))

/-- A healthy poll answers POLL_IDLE, POLL_SKIP or POLL_SENT. -/
theorem pollSend_status_ne (now : Nat) (ack : Option Nat) (s : State) {r : Response}
    (h : (pollSend now ack s).resp = some r) : r.status ≠ .pollRewind := by
  by_cases hc : s.tx.cursor = s.tx.unusedPoint
  · rw [pollSend_of_caughtUp hc] at h; cases h; simp
  · cases hv : (s.slot s.tx.cursor).valid with
    | false => rw [pollSend_of_empty hc hv] at h; cases h; simp
    | true => rw [pollSend_of_valid hc hv] at h; cases h; simp

theorem slot_pollReturn (st : Status) (x : Value) (seq : Option Nat) (slot : Option SlotStatus) (ack : Option Nat)
    (s : State) (i : Nat) : (pollReturn st x seq slot ack s).slot i = s.slot i := rfl

theorem slot_setCursor (c : Nat) (s : State) (i : Nat) : (setCursor c s).slot i = s.slot i := rfl

theorem ne_blank_of_valid {x : Slot} (h : x.valid = true) : x ≠ Slot.blank := by
  rintro rfl
  cases h

theorem slot_setSlot {k : Nat} {x : Slot} (hx : x ≠ Slot.blank) (i : Nat) :
    (setSlot k x s).slot i = if i = k then x else s.slot i := by
  split
  · next hi => rw [hi]; exact slotRead_write_listed s.tx.slots k x hx
  · next hi => exact slot_setSlot_other x hi

/-- The transmission stamps the slot at the cursor and leaves the others (42 R199). -/
theorem slot_transmit (now : Nat) (s : State) (i : Nat) :
    (transmit now s).slot i =
      if i = s.tx.cursor then { s.slot s.tx.cursor with stamped := true, sendTime := now % 2 ^ s.par.tsBits }
      else s.slot i :=
  slot_setSlot (s := emitFrame _ _ _ s) (fun he => Bool.noConfusion (congrArg Slot.stamped he)) i

/-! ## The unhealthy poll -/

theorem pollRewind_of_tieBreak (h : 1 ≤ dAck ∧ dCur ≤ dAck) :
    pollRewind oldC dAck dCur ack s =
      pollReturn .pollRewind (.number s.beginPoint) (some s.beginPoint) none ack
        (unstampSlot s.beginPoint (setCursor s.beginPoint s)) := by
  simp only [pollRewind, if_pos h]

theorem pollRewind_of_ordinary (h : ¬ (1 ≤ dAck ∧ dCur ≤ dAck)) :
    pollRewind oldC dAck dCur ack s =
      pollReturn .pollRewind (.number s.beginPoint) (some s.beginPoint) none ack
        (unstampSlot s.beginPoint (setCursor s.beginPoint (rewindMarks s.beginPoint oldC s))) := by
  simp only [pollRewind, if_neg h]

/-- A rewind, ordinary or tie-break, writes slots and puts the cursor on `beginPoint` (42 R194, R195). -/
theorem pollRewind_eq (oldC dAck dCur : Nat) (ack : Option Nat) (s : State) :
    pollRewind oldC dAck dCur ack s =
      Spec.polled .pollRewind (.number s.beginPoint) (some s.beginPoint) none ack
        { s with tx := { s.tx with
          slots := (pollRewind oldC dAck dCur ack s).tx.slots, cursor := s.beginPoint } } := by
  by_cases h : 1 ≤ dAck ∧ dCur ≤ dAck
  · rw [pollRewind_of_tieBreak h]
    rfl
  · have hmarks := rewindMarks_frame s.beginPoint oldC s
    rw [pollRewind_of_ordinary h]
    generalize (rewindMarks s.beginPoint oldC s).tx.slots = m at hmarks
    rw [hmarks]
    rfl

end

/-- Slot value `x` of number `i` marked by a rewind to `b` (42 R194). -/
def marked (b i : Nat) (x : Slot) : Slot :=
  { x with stamped := false, status := if i = b then .timedOut else .retransmitted }

theorem slot_markSlot (b j : Nat) (s : State) (i : Nat) :
    (markSlot b s j).slot i = if (s.slot i).valid = true ∧ i = j then marked b i (s.slot i) else s.slot i := by
  unfold markSlot
  split
  · next hv =>
    rw [slot_setSlot (ne_blank_of_valid (x := { s.slot j with status := _, stamped := false }) hv)]
    by_cases hi : i = j
    · subst hi; simp [hv, marked]
    · simp [hi]
  · next hv =>
    rw [if_neg]
    rintro ⟨hv', rfl⟩
    exact hv hv'

theorem slot_foldl_markSlot (b : Nat) (is : List Nat) (s : State) (i : Nat) :
    (is.foldl (markSlot b) s).slot i = if (s.slot i).valid = true ∧ i ∈ is then marked b i (s.slot i) else s.slot i := by
  induction is generalizing s with
  | nil => simp
  | cons j is ih =>
    have hj := slot_markSlot b j s i
    rw [List.foldl_cons, ih]
    by_cases hvj : (s.slot i).valid = true ∧ i = j
    · rw [if_pos hvj] at hj
      obtain ⟨hv, rfl⟩ := hvj
      have hin : (s.slot i).valid = true ∧ i ∈ i :: is := ⟨hv, List.mem_cons_self⟩
      rw [hj, if_pos hin]
      split <;> rfl
    · rw [if_neg hvj] at hj
      rw [hj]
      refine if_congr (and_congr_right fun hv => ?_) rfl rfl
      exact (List.mem_cons.trans (or_iff_right fun hij => hvj ⟨hv, hij⟩)).symm

/-- The rewind marks the slots that hold a frame from `b` up to the old cursor (42 R194). -/
theorem slot_rewindMarks (b c : Nat) (s : State) (i : Nat) :
    (rewindMarks b c s).slot i =
      if (s.slot i).valid = true ∧ i ∈ cycRange s.n b c then marked b i (s.slot i) else s.slot i :=
  slot_foldl_markSlot b (cycRange s.n b c) s i

/-- Unsetting a slot that holds a frame changes its stamp alone, whatever the form of the slot file. -/
theorem slot_unstampSlot {b : Nat} (hv : (s.slot b).valid = true) (i : Nat) :
    (unstampSlot b s).slot i = if i = b then { s.slot i with stamped := false } else s.slot i := by
  rw [unstampSlot, slot_setSlot (ne_blank_of_valid (x := { s.slot b with stamped := false }) hv)]
  split
  · next hi => rw [hi]
  · rfl

theorem valid_rewindMarks (b c : Nat) (s : State) (i : Nat) :
    ((rewindMarks b c s).slot i).valid = (s.slot i).valid := by
  rw [slot_rewindMarks]
  split <;> rfl

section
variable {oldC dAck dCur : Nat} {ack : Option Nat}

/-- The tie-break unsets the slot at `beginPoint` and leaves the others (42 R195). -/
theorem slot_pollRewind_of_tieBreak (h : 1 ≤ dAck ∧ dCur ≤ dAck) (hv : (s.slot s.beginPoint).valid = true) (i : Nat) :
    (pollRewind oldC dAck dCur ack s).slot i =
      if i = s.beginPoint then { s.slot i with stamped := false } else s.slot i := by
  rw [pollRewind_of_tieBreak h, slot_pollReturn, slot_unstampSlot (by rwa [slot_setCursor]), slot_setCursor]

/-- The ordinary rewind marks the slots that hold a frame up to the old cursor, and unsets the one at `beginPoint`
(42 R194). -/
theorem slot_pollRewind_of_ordinary (h : ¬ (1 ≤ dAck ∧ dCur ≤ dAck)) (hv : (s.slot s.beginPoint).valid = true)
    (i : Nat) :
    (pollRewind oldC dAck dCur ack s).slot i =
      if (s.slot i).valid = true ∧ i ∈ cycRange s.n s.beginPoint oldC then marked s.beginPoint i (s.slot i)
      else if i = s.beginPoint then { s.slot i with stamped := false }
      else s.slot i := by
  have hv' : ((rewindMarks s.beginPoint oldC s).slot s.beginPoint).valid = true := by rw [valid_rewindMarks, hv]
  rw [pollRewind_of_ordinary h, slot_pollReturn, slot_unstampSlot (by rwa [slot_setCursor]), slot_setCursor,
    slot_rewindMarks]
  split_ifs <;> rfl

/-- After a rewind the slot at `beginPoint` holds its frame, unset. -/
theorem slot_pollRewind_beginPoint (hv : (s.slot s.beginPoint).valid = true) :
    ((pollRewind oldC dAck dCur ack s).slot s.beginPoint).valid = true ∧
      ((pollRewind oldC dAck dCur ack s).slot s.beginPoint).stamped = false := by
  by_cases h : 1 ≤ dAck ∧ dCur ≤ dAck
  · rw [slot_pollRewind_of_tieBreak h hv, if_pos rfl]
    exact ⟨hv, rfl⟩
  · rw [slot_pollRewind_of_ordinary h hv, if_pos rfl]
    split
    · exact ⟨hv, rfl⟩
    · exact ⟨hv, rfl⟩

end

/-! ## Polls with no acknowledgement -/

theorem exec_txPoll_rewinds (h : Spec.mayPoll s) (hack : Spec.ackFor s = none) (hu : Spec.unhealthy now s) :
    exec (.txPoll now) s =
      .next (pollRewind s.tx.cursor 0 (cycDist s.n s.tx.unusedPoint s.tx.cursor) none (Spec.judged s)) := by
  rw [exec_txPoll_of_none h hack, pollAfterSlide_of_unhealthy (s := drainAcks s) rfl hu, noteExhaustion_drainAcks]

theorem exec_txPoll_sends (h : Spec.mayPoll s) (hack : Spec.ackFor s = none) (hu : ¬ Spec.unhealthy now s) :
    exec (.txPoll now) s = .next (pollSend now none (Spec.judged s)) := by
  have hnorm : ∀ dCur, normalise 0 dCur (Spec.judged s) = Spec.judged s := fun dCur => if_neg (by omega)
  rw [exec_txPoll_of_none h hack, pollAfterSlide_of_healthy (s := drainAcks s) rfl hu, noteExhaustion_drainAcks, hnorm]

/-- Settles O30: what is sent is the slot as `judged` leaves it, which is the slot before. -/
theorem txPollTransmitsAtTheCursor : Obligations.TxPollTransmitsAtTheCursor := by
  unfold Obligations.TxPollTransmitsAtTheCursor
  intro s now h hack hu hc hv k v
  have hsend : pollSend now none (Spec.judged s) = _ := pollSend_of_valid (s := Spec.judged s) hc hv
  exact ⟨_, (exec_txPoll_sends h hack hu).trans (congrArg _ hsend), rfl, slot_transmit now (Spec.judged s)⟩

/-- Settles O31: the two healthy polls that send nothing. -/
theorem txPollIdlesOrSkips : Obligations.TxPollIdlesOrSkips := by
  unfold Obligations.TxPollIdlesOrSkips
  intro s now h hack hu
  rw [exec_txPoll_sends h hack hu]
  exact ⟨fun hc => congrArg _ (pollSend_of_caughtUp (s := Spec.judged s) hc),
    fun hc hv => congrArg _ (pollSend_of_empty (s := Spec.judged s) hc hv)⟩

/-- Settles O32: with no acknowledgement every rewind is an ordinary one. -/
theorem txPollRewinds : Obligations.TxPollRewinds := by
  unfold Obligations.TxPollRewinds
  intro s now h hack hu b
  exact ⟨_, exec_txPoll_rewinds h hack hu, pollRewind_eq _ _ _ _ (Spec.judged s),
    slot_pollRewind_of_ordinary (s := Spec.judged s) (by omega) hu.1⟩

/-! ## Polls with an acknowledgement in [0, W] -/

/-- A slide in a drained core leaves the ack table empty. -/
theorem slideTo_ackTab (h : slideTo a { s with ackTab := [] } = .ok s1) : s1.ackTab = [] := by
  obtain ⟨-, hack, -⟩ := slideTo_footprint h
  exact hack

theorem slideTo_cursor (h : slideTo a s = .ok t) : t.tx.cursor = s.tx.cursor := by
  obtain ⟨t1, -, hf, rfl⟩ := slideTo_cases h
  show t1.tx.cursor = s.tx.cursor
  rw [hf.tx]

/-- Settles O33: the poll is unhealthy with the distances of R195. -/
theorem txPollTieBreak : Obligations.TxPollTieBreak := by
  unfold Obligations.TxPollTieBreak
  intro s s1 now a h hack ha h1 hterm hu hfreed
  have hpoll := exec_txPoll_of_le h hack ha h1 now
  rw [pollAfterSlide_of_unhealthy (isTerminal_some_eq_false.2 hterm) hu,
    noteExhaustion_eq_judged (slideTo_ackTab h1)] at hpoll
  exact ⟨_, hpoll, pollRewind_eq _ _ _ _ (Spec.judged s1),
    slot_pollRewind_of_tieBreak (s := Spec.judged s1) hfreed hu.1⟩

/-- Settles O34: the terminal test comes before the time is looked at. -/
theorem txPollEndsOnTheTerminalAck : Obligations.TxPollEndsOnTheTerminalAck := by
  unfold Obligations.TxPollEndsOnTheTerminalAck
  intro s s1 now a h hack ha h1 hterm
  have hpoll := exec_txPoll_of_le h hack ha h1 now
  rw [pollAfterSlide_of_terminal (isTerminal_some.2 hterm)] at hpoll
  have hw : s1.w = s.w := w_of_cfg (slideTo_marksAtMost h1).cfg
  exact ⟨_, hpoll, rfl, fun i hi => slot_releaseWindow_isEmpty (hi.trans_eq hw.symm)⟩

/-! ### The same poll without the acknowledgement -/

section
variable {oldC dAck dCur dAck' dCur' : Nat} {ack ack' : Option Nat}

/-- The acknowledgement consumed shows in the LOG record alone (42 R200). -/
theorem pollSend_withoutLog (now : Nat) (ack ack' : Option Nat) (s : State) :
    { pollSend now ack s with log := [] } = { pollSend now ack' s with log := [] } := by
  by_cases hc : s.tx.cursor = s.tx.unusedPoint
  · rw [pollSend_of_caughtUp hc, pollSend_of_caughtUp hc]; rfl
  · cases hv : (s.slot s.tx.cursor).valid with
    | false => rw [pollSend_of_empty hc hv, pollSend_of_empty hc hv]; rfl
    | true => rw [pollSend_of_valid hc hv, pollSend_of_valid hc hv]; rfl

theorem pollRewind_withoutLog (h : ¬ (1 ≤ dAck ∧ dCur ≤ dAck)) (h' : ¬ (1 ≤ dAck' ∧ dCur' ≤ dAck')) :
    { pollRewind oldC dAck dCur ack s with log := [] } = { pollRewind oldC dAck' dCur' ack' s with log := [] } := by
  rw [pollRewind_of_ordinary h, pollRewind_of_ordinary h']
  rfl

end

/-- A core that a poll has slid may poll again, and finds no acknowledgement. -/
theorem mayPoll_of_slideTo (h : Spec.mayPoll s) (h1 : slideTo a { s with ackTab := [] } = .ok s1) :
    Spec.mayPoll s1 ∧ Spec.ackFor s1 = none := by
  have hm := slideTo_marksAtMost h1
  refine ⟨⟨by rw [hm.ctl]; exact h.1, ?_⟩, by rw [Spec.ackFor, slideTo_ackTab h1]; rfl⟩
  rw [Spec.transfers, hm.txState]
  exact h.2

/-- The normalisation moves the cursor exactly in the polls that R196 names. -/
theorem normalise_eq_of_par (hpar : s1.par = s.par) (a : Nat) :
    (Spec.normalises a s → normalise (cycDist s.n s.tx.unusedPoint a) (cycDist s.n s.tx.unusedPoint s.tx.cursor) s1 =
        setCursor s1.beginPoint s1) ∧
      (¬ Spec.normalises a s →
        normalise (cycDist s.n s.tx.unusedPoint a) (cycDist s.n s.tx.unusedPoint s.tx.cursor) s1 = s1) := by
  unfold normalise
  rw [hpar]
  exact ⟨fun ⟨hpresent, ⟨hack, hcur⟩, hcur1⟩ => if_pos ⟨hpresent, hack, hcur1, hcur⟩,
    fun hn => if_neg fun ⟨hpresent, hack, hcur1, hcur⟩ => hn ⟨hpresent, ⟨hack, hcur⟩, hcur1⟩⟩

/-- Settles O35: after the slide the two polls judge the same state, and take the same branch from it. -/
theorem txPollSlidesThenActs : Obligations.TxPollSlidesThenActs := by
  unfold Obligations.TxPollSlidesThenActs
  intro s s1 now a h hack ha h1 hterm htie
  obtain ⟨hmay, hnone⟩ := mayPoll_of_slideTo h h1
  have hpar : (Spec.judged s1).par = s.par := (slideTo_marksAtMost h1).par
  have hpoll := exec_txPoll_of_le h hack ha h1 now
  have hjudged := noteExhaustion_eq_judged (slideTo_ackTab h1)
  have hgo := isTerminal_some_eq_false.2 hterm
  obtain ⟨hmoved, hkept⟩ := normalise_eq_of_par hpar a
  by_cases hu : Spec.unhealthy now s1
  · have hordinary : ¬ Spec.cursorFreed a s := fun hf => htie ⟨hu, hf⟩
    have hsecond := exec_txPoll_rewinds hmay hnone hu
    rw [slideTo_cursor h1] at hsecond
    rw [pollAfterSlide_of_unhealthy hgo hu, hjudged] at hpoll
    exact ⟨_, _, hpoll, fun _ => hsecond, fun hn => absurd hu hn, pollRewind_withoutLog hordinary (by omega)⟩
  · rw [pollAfterSlide_of_healthy hgo hu, hjudged] at hpoll
    by_cases hn : Spec.normalises a s
    · rw [hmoved hn] at hpoll
      exact ⟨_, _, hpoll, fun hor => absurd hn (hor.resolve_left hu),
        fun _ _ => exec_txPoll_sends (s := { s1 with tx := { s1.tx with cursor := s1.beginPoint } }) hmay hnone hu,
        pollSend_withoutLog now (some a) none _⟩
    · rw [hkept hn] at hpoll
      exact ⟨_, _, hpoll, fun _ => exec_txPoll_sends hmay hnone hu, fun _ h => absurd h hn,
        pollSend_withoutLog now (some a) none _⟩

end Sys2Proof.Proofs
end

section
/-! What a poll leads to: the send that follows every rewind (42 R206), the transition table of `txState` (42 R203), and
the numbers above W (20 R71, 42 R186). -/

namespace Sys2Proof.Proofs

open Sys2Proof.Machine

variable {s t s1 : State} {now a : Nat} {ack : Option Nat}

/-! ## After a rewind -/

/-- What the slide of a poll keeps: the configuration and the state of the transfer; `unusedPoint` stays in [0, W] and the
ack table is empty. -/
theorem pollSlide_keeps (h : pollSlide ((postedAck s).map (numberTaken · s)) (pollBegin s) = .ok s1) :
    s1.cfg = s.cfg ∧ s1.ctl = s.ctl ∧ s1.tx.txState = s.tx.txState ∧ s1.ackTab = [] ∧
      (s.tx.unusedPoint ≤ s.w → s1.tx.unusedPoint ≤ s1.w) := by
  have hbegin := pollBegin_sameRegisters s
  have hm := pollSlide_marksAtMost h
  have hcfg : s1.cfg = s.cfg := hm.cfg.trans hbegin.cfg
  refine ⟨hcfg, hm.ctl.trans hbegin.ctl, hm.txState.trans (by rw [hbegin.tx]), ?_⟩
  rw [w_of_cfg hcfg]
  rcases pollSlide_cases h with rfl | ⟨b, hb, hslide⟩
  · exact ⟨rfl, fun hle => by rwa [hbegin.tx]⟩
  · obtain ⟨c, -, rfl⟩ := Option.map_eq_some_iff.1 hb
    obtain ⟨-, hack, -⟩ := slideTo_footprint hslide
    exact ⟨hack, fun _ => (slideTo_unusedPoint hslide).trans_le (numberTaken_le c s)⟩

/-- Only an unhealthy window makes a poll answer POLL_REWIND. -/
theorem pollAfterSlide_eq_pollRewind {oldC dAck dCur : Nat} {r : Response}
    (h : (pollAfterSlide now oldC dAck dCur ack s).resp = some r) (hr : r.status = .pollRewind) :
    Spec.unhealthy now s ∧
      pollAfterSlide now oldC dAck dCur ack s = pollRewind oldC dAck dCur ack (noteExhaustion s) := by
  cases hterm : isTerminal ack s with
  | true => rw [pollAfterSlide_of_terminal hterm] at h; cases h; cases hr
  | false =>
    by_cases hu : Spec.unhealthy now s
    · exact ⟨hu, pollAfterSlide_of_unhealthy hterm hu⟩
    · rw [pollAfterSlide_of_healthy hterm hu] at h
      exact absurd hr (pollSend_status_ne _ _ _ h)

/-- With W at least 1 `beginPoint` is not `unusedPoint` (10 R26). -/
theorem beginPoint_ne_unusedPoint (hw : 1 ≤ s.w) (hu : s.tx.unusedPoint ≤ s.w) : s.beginPoint ≠ s.tx.unusedPoint := by
  have hn : s.n = s.w + 1 := rfl
  rw [State.beginPoint, cycInc_eq (by omega), hn]
  split <;> omega

/-- A poll with the cursor at `beginPoint` and the slot there full and unset sends that slot, whatever the time. -/
theorem exec_txPoll_of_rewound (h : Spec.mayPoll t) (hack : Spec.ackFor t = none) (hc : t.tx.cursor = t.beginPoint)
    (hne : t.beginPoint ≠ t.tx.unusedPoint) (hv : (t.slot t.beginPoint).valid = true)
    (hs : (t.slot t.beginPoint).stamped = false) (later : Nat) :
    ∃ v, exec (.txPoll later) t = .next v ∧
      v.resp = some { line := t.line, status := .pollSent, value := .sent t.beginPoint (t.slot t.beginPoint).status } := by
  have hu : ¬ Spec.unhealthy later t := fun ⟨_, hs', _⟩ => by rw [hs] at hs'; cases hs'
  have hsend := pollSend_of_valid (s := Spec.judged t) (now := later) (ack := none) (hc ▸ hne :) (hc ▸ hv :)
  refine ⟨_, (exec_txPoll_sends h hack hu).trans (congrArg _ hsend), ?_⟩
  rw [← hc]
  rfl

section
variable {oldC dAck dCur : Nat}

theorem pollRewind_cursor (oldC dAck dCur : Nat) (ack : Option Nat) (s : State) :
    (pollRewind oldC dAck dCur ack s).tx.cursor = s.beginPoint := by rw [pollRewind_eq]; rfl

theorem pollRewind_unusedPoint (oldC dAck dCur : Nat) (ack : Option Nat) (s : State) :
    (pollRewind oldC dAck dCur ack s).tx.unusedPoint = s.tx.unusedPoint := by rw [pollRewind_eq]; rfl

theorem pollRewind_beginPoint (oldC dAck dCur : Nat) (ack : Option Nat) (s : State) :
    (pollRewind oldC dAck dCur ack s).beginPoint = s.beginPoint := by rw [pollRewind_eq]; rfl

/-- A rewound core may poll again if it might before, and finds no acknowledgement. -/
theorem mayPoll_pollRewind (h : Spec.mayPoll s) (hack : s.ackTab = []) :
    Spec.mayPoll (pollRewind oldC dAck dCur ack s) ∧ Spec.ackFor (pollRewind oldC dAck dCur ack s) = none := by
  rw [pollRewind_eq]
  exact ⟨h, congrArg (tableFind · s.tx.dest.toNat) hack⟩

/-- The poll after a rewind sends the slot at `beginPoint`, whatever the time. -/
theorem exec_txPoll_of_pollRewind (h : Spec.mayPoll s) (hack : s.ackTab = []) (hw : 1 ≤ s.w)
    (hu : s.tx.unusedPoint ≤ s.w) (hv : (s.slot s.beginPoint).valid = true) (ht : pollRewind oldC dAck dCur ack s = t)
    (later : Nat) :
    ∃ v, exec (.txPoll later) t = .next v ∧
      v.resp = some { line := t.line, status := .pollSent, value := .sent t.beginPoint (t.slot t.beginPoint).status } := by
  subst ht
  obtain ⟨hmay, hnone⟩ := mayPoll_pollRewind (oldC := oldC) (dAck := dAck) (dCur := dCur) (ack := ack) h hack
  obtain ⟨hvalid, hstamped⟩ := slot_pollRewind_beginPoint (oldC := oldC) (dAck := dAck) (dCur := dCur) (ack := ack) hv
  refine exec_txPoll_of_rewound hmay hnone ?_ ?_ ?_ ?_ later
  · rw [pollRewind_cursor, pollRewind_beginPoint]
  · rw [pollRewind_beginPoint, pollRewind_unusedPoint]
    exact beginPoint_ne_unusedPoint hw hu
  · rwa [pollRewind_beginPoint]
  · rwa [pollRewind_beginPoint]

end

theorem mayPoll_judged (h : Spec.mayPoll s) : Spec.mayPoll (Spec.judged s) := by
  refine ⟨h.1, ?_⟩
  show (if s.tx.exhausted then TxState.drain else s.tx.txState) = .fill ∨
    (if s.tx.exhausted then TxState.drain else s.tx.txState) = .drain
  split
  · exact .inr rfl
  · exact h.2

/-- Everything a poll that may run does: slide to the number posted for `dest`, taken in [0, W], and go on. -/
theorem exec_txPoll_runs (h : Spec.mayPoll s) (hexec : exec (.txPoll now) s = .next t) :
    ∃ s1 dAck dCur, pollSlide ((postedAck s).map (numberTaken · s)) (pollBegin s) = .ok s1 ∧
      t = pollAfterSlide now s.tx.cursor dAck dCur ((postedAck s).map (numberTaken · s)) s1 := by
  have hrun := fun hn => not_mayPoll_iff.1 hn h
  simp only [exec, execTxPoll, if_neg hrun] at hexec
  split at hexec
  · cases hexec
  · next s1 h1 => cases hexec; exact ⟨s1, _, _, h1, rfl⟩

/-- Settles O36: a rewind leaves the cursor on a slot that holds an unset frame. -/
theorem rewindIsFollowedByASend : Obligations.RewindIsFollowedByASend := by
  unfold Obligations.RewindIsFollowedByASend
  intro s t now later r hw hunused h hresp hr
  by_cases hmay : Spec.mayPoll s
  · obtain ⟨s1, dAck, dCur, h1, rfl⟩ := exec_txPoll_runs hmay h
    obtain ⟨hcfg, hctl, hstate, hack, hrange⟩ := pollSlide_keeps h1
    obtain ⟨⟨hvalid, -⟩, heq⟩ := pollAfterSlide_eq_pollRewind hresp hr
    rw [noteExhaustion_eq_judged hack] at heq
    have hmay1 : Spec.mayPoll s1 := by rw [Spec.mayPoll, hctl, Spec.transfers, hstate]; exact hmay
    have hw1 : 1 ≤ s1.w := (w_of_cfg hcfg).symm ▸ hw
    exact exec_txPoll_of_pollRewind (s := Spec.judged s1) (mayPoll_judged hmay1) rfl hw1 (hrange hunused) hvalid
      heq.symm later
  · rw [exec_txPoll_of_not_mayPoll hmay] at h
    cases h
    cases hresp
    cases hr

/-! ## The transition table -/

/-- What follows the slide writes neither the configuration nor the exhaustion record. -/
theorem pollAfterSlide_keeps (now oldC dAck dCur : Nat) (ack : Option Nat) (s : State) :
    (pollAfterSlide now oldC dAck dCur ack s).cfg = s.cfg ∧
      (pollAfterSlide now oldC dAck dCur ack s).tx.exhausted = s.tx.exhausted ∧
      (pollAfterSlide now oldC dAck dCur ack s).tx.eos = s.tx.eos := by
  rcases pollAfterSlide_cases now oldC dAck dCur ack s with hk | hk
  · exact ⟨hk.cfg, by rw [hk.tx]; rfl, by rw [hk.tx]; rfl⟩
  · rw [noteExhaustion_eq] at hk
    exact ⟨hk.cfg, by rw [hk.tx]; rfl, by rw [hk.tx]; rfl⟩

theorem pollAfterSlide_txState (now oldC dAck dCur : Nat) (ack : Option Nat) (s : State) :
    (pollAfterSlide now oldC dAck dCur ack s).tx.txState =
      if isTerminal ack s then .done else if s.tx.exhausted then .drain else s.tx.txState := by
  cases hterm : isTerminal ack s with
  | true => rw [pollAfterSlide_of_terminal hterm]; rfl
  | false =>
    have hmoves : KeepsFrames (noteExhaustion s) (pollAfterSlide now oldC dAck dCur ack s) := by
      by_cases hu : Spec.unhealthy now s
      · rw [pollAfterSlide_of_unhealthy hterm hu]
        exact pollRewind_keepsFrames _ _ _ _ _
      · rw [pollAfterSlide_of_healthy hterm hu]
        exact (normalise_keepsFrames _ _ _).trans (pollSend_keepsFrames _ _ _)
    rw [hmoves.tx, noteExhaustion_eq]
    rfl

theorem isTerminal_iff : isTerminal ack s = true ↔ ∃ a, ack = some a ∧ Spec.terminal a s := by
  cases ack with
  | none => simp [isTerminal]
  | some a => simp [isTerminal_some]

/-- Numbers of [0, W] are taken as themselves. -/
theorem map_numberTaken (h : ∀ a, Spec.ackFor s = some a → a ≤ s.w) :
    (postedAck s).map (numberTaken · s) = Spec.ackFor s := by
  show (Spec.ackFor s).map (numberTaken · s) = Spec.ackFor s
  cases hack : Spec.ackFor s with
  | none => rfl
  | some a => rw [Option.map_some, numberTaken_of_le (h a hack)]

/-- The row of TX.POLL (42 R203). -/
theorem exec_txPoll_txState (h : Spec.mayPoll s) (hle : ∀ a, Spec.ackFor s = some a → a ≤ s.w)
    (hexec : exec (.txPoll now) s = .next t) :
    ((∃ a, Spec.ackFor s = some a ∧ Spec.terminal a t) → t.tx.txState = .done) ∧
      ((¬ ∃ a, Spec.ackFor s = some a ∧ Spec.terminal a t) →
        t.tx.txState = if t.tx.exhausted then .drain else s.tx.txState) := by
  obtain ⟨s1, dAck, dCur, h1, rfl⟩ := exec_txPoll_runs h hexec
  obtain ⟨-, -, hstate, -⟩ := pollSlide_keeps h1
  rw [map_numberTaken hle]
  obtain ⟨hcfg, hexhausted, heos⟩ := pollAfterSlide_keeps now s.tx.cursor dAck dCur (Spec.ackFor s) s1
  have hterm : ∀ a, Spec.terminal a (pollAfterSlide now s.tx.cursor dAck dCur (Spec.ackFor s) s1) ↔ Spec.terminal a s1 :=
    fun a => by rw [Spec.terminal, hexhausted, heos, w_of_cfg hcfg, Spec.terminal]
  simp only [hterm, ← isTerminal_iff, pollAfterSlide_txState, hexhausted, hstate]
  exact ⟨fun hdone => if_pos hdone, fun hgo => if_neg hgo⟩

/-- The row of TX.START (42 R203). -/
theorem exec_txStart_txState {d : PeerId} (h : exec (.txStart d) s = .next t) :
    (t.resp.map Response.status ≠ some .ok → t.tx.txState = s.tx.txState) ∧
      (t.resp.map Response.status = some .ok →
        ¬ Spec.transfers s ∧
        t.tx.txState = if t.tx.exhausted then (if t.tx.eos = s.initSeq then .done else .drain) else .fill) := by
  simp only [exec, execTxStart] at h
  split_ifs at h with hv ha hd
  · cases h; exact ⟨fun _ => rfl, fun hok => by cases hok⟩
  · cases h; exact ⟨fun _ => rfl, fun hok => by cases hok⟩
  · cases h; exact ⟨fun _ => rfl, fun hok => by cases hok⟩
  · split at h
    · cases h
    · next s1 h1 =>
      cases h
      have hinit : s1.initSeq = s.initSeq := initSeq_of_cfg (refill_frame h1).cfg
      refine ⟨fun hok => absurd rfl hok, fun _ => ⟨active_eq_false_iff.1 (by simpa using ha), ?_⟩⟩
      rw [← hinit]
      rfl

theorem cfgLocked_iff : s.cfgLocked = true ↔ Spec.locked s := by
  rw [State.cfgLocked, Bool.or_eq_true, active_iff, Spec.locked]

/-- The row of CFG.COMMIT (42 R203). -/
theorem exec_cfgCommit_txState (h : exec .cfgCommit s = .next t) :
    (Spec.locked s → t.tx.txState = s.tx.txState) ∧ (¬ Spec.locked s → t.tx.txState = .idle) := by
  rw [← cfgLocked_iff]
  simp only [exec, execCfgCommit] at h
  split at h
  · next hlock => cases h; exact ⟨fun _ => rfl, fun hn => absurd hlock hn⟩
  · next hlock => split at h <;> cases h <;> exact ⟨fun hl => absurd hl hlock, fun _ => rfl⟩

/-- Settles O38: the rows of the table, and the operations that have none. -/
theorem txStateFollowsTheTransitionTable : Obligations.TxStateFollowsTheTransitionTable := by
  unfold Obligations.TxStateFollowsTheTransitionTable
  intro i s t h
  cases i with
  | reset => cases h; rfl
  | cfgCommit => exact exec_cfgCommit_txState h
  | txStart d => exact exec_txStart_txState h
  | txAbort =>
    refine ⟨fun hmay => ?_, fun hmay => ?_⟩
    · rw [exec_txAbort_of_mayPoll hmay] at h; cases h; exact ⟨rfl, rfl⟩
    · rw [exec_txAbort_of_not_mayPoll hmay] at h; cases h; rfl
  | txPoll now =>
    refine ⟨fun hmay => ?_, fun hmay hle => exec_txPoll_txState hmay hle h⟩
    rw [exec_txPoll_of_not_mayPoll hmay] at h; cases h; rfl
  | txSlide a => exact (execTxSlide_marksAtMost h).txState
  | cfgSet r x =>
    rcases execCfgSet_cases h with rfl | ⟨-, -, htx, -⟩
    · rfl
    · show t.tx.txState = s.tx.txState
      rw [htx]
  | rxRun => simp only [exec, execRxRun] at h; split at h <;> cases h <;> rfl
  | rxStop => cases h; rfl
  | _ => exact congrArg Sender.txState (exec_sameRegisters rfl h).tx

/-! ## Numbers above W -/

theorem noRoom_eq_false {tab : List (Nat × Nat)} {p : PeerId} (h : ¬ Spec.full tab p s) : noRoom tab p s = false := by
  rw [← Bool.not_eq_true]
  simpa [noRoom, Spec.full] using h

/-- A slide to a number above W is a slide to the number it is taken as, the counter of free values moved on. -/
theorem exec_txSlide_above (ha : s.w < a) (hsrc : srcKeepsContract s = true) :
    ∃ b t, b ≤ s.w ∧ exec (.txSlide a) s = .next t ∧ exec (.txSlide b) { s with free := s.free + 1 } = .next t := by
  obtain ⟨t, ht⟩ := slideTo_ok (a := numberTaken a s) (s := { s with free := s.free + 1 })
    (chunk_le_of_srcKeepsContract hsrc :)
  exact ⟨numberTaken a s, _, numberTaken_le a s, exec_txSlide_of_slideTo (by rw [noteNumber_of_lt ha, ht]),
    exec_txSlide_of_le (numberTaken_le a s :) ht⟩

theorem postAck_of_lt (p : PeerId) (ha : s.w < a) :
    postAck p a s = setAckEntry p (numberTaken a s) { s with free := s.free + 1 } := by
  rw [postAck, noteNumber_of_lt ha]

theorem exec_ackPost_above (p : PeerId) (ha : s.w < a) :
    ∃ b t, b ≤ s.w ∧ exec (.ackPost p a) s = .next t ∧ exec (.ackPost p b) { s with free := s.free + 1 } = .next t := by
  refine ⟨numberTaken a s, _, numberTaken_le a s, rfl, ?_⟩
  rw [postAck_of_lt p ha]
  exact exec_ackPost_of_le (s := { s with free := s.free + 1 }) (numberTaken_le a s)

theorem exec_rxAck_above (src dst : PeerId) (ha : s.w < a) (hroom : ¬ Spec.full s.ackTab src s) :
    ∃ b t, b ≤ s.w ∧ exec (.rxAck src dst a) s = .next t ∧
      t = Spec.reply .okAck .none
        (Spec.logged 0x85 .okAck (.ack src a) { peer := some src, ack := some a }
          { s with ackTab := t.ackTab, free := s.free + 1 }) ∧
      ∀ q, tableFind t.ackTab q = if q = src.toNat then some b else tableFind s.ackTab q := by
  have hexec : exec (.rxAck src dst a) s =
      .next (respond .okAck .none (writeLog 0x85 .okAck (.ack src a) { peer := some src, ack := some a }
        (setAckEntry src (numberTaken a s) { s with free := s.free + 1 }))) := by
    simp only [exec, execRxAck, receiveAck, noRoom_eq_false hroom, Bool.false_eq_true, if_false, postAck_of_lt src ha]
  exact ⟨numberTaken a s, _, numberTaken_le a s, hexec, rfl, tableFind_insert s.ackTab src.toNat _⟩

/-- A poll that finds a number above W is a poll that finds, alone, the number it is taken as. -/
theorem exec_txPoll_above (now : Nat) (h : Spec.mayPoll s) (hack : Spec.ackFor s = some a) (ha : s.w < a)
    (hsrc : srcKeepsContract s = true) :
    ∃ b t, b ≤ s.w ∧ exec (.txPoll now) s = .next t ∧
      exec (.txPoll now) { s with ackTab := [(s.tx.dest.toNat, b)], free := s.free + 1 } = .next t := by
  obtain ⟨s1, h1⟩ := slideTo_ok (a := numberTaken a s) (s := { s with ackTab := [], free := s.free + 1 })
    (chunk_le_of_srcKeepsContract hsrc :)
  refine ⟨numberTaken a s, _, numberTaken_le a s, exec_txPoll_of_some h hack (s1 := s1) ?_ now, ?_⟩
  · rw [noteNumber_of_lt ha]; exact h1
  · exact exec_txPoll_of_le (s := { s with ackTab := [(s.tx.dest.toNat, numberTaken a s)], free := s.free + 1 }) h
      (if_pos rfl) (numberTaken_le a s :) h1 now

/-- A chunk longer than MAXP that TX.START pulls first stops the machine (93 U3). -/
theorem exec_txStart_oversize {d : PeerId} {c : Bytes} {rest : List SrcAnswer} (hv : s.ctl.cfgValid = true)
    (ht : ¬ Spec.transfers s) (hd : d ≠ s.localId) (hw : 1 ≤ s.w) (hsrc : s.src = .chunk c :: rest)
    (hc : s.maxp < c.length) : exec (.txStart d) s = .fault (.srcChunkTooLong c.length) := by
  obtain ⟨k, hk⟩ := Nat.exists_eq_succ_of_ne_zero (show s.w ≠ 0 by omega)
  have hfill : refill (cycFrom s.n s.initSeq s.w) (startRegisters d s) = .error (.srcChunkTooLong c.length) := by
    have hsrc' : (startRegisters d s).src = .chunk c :: rest := hsrc
    have hx : (startRegisters d s).tx.exhausted = false := rfl
    have hc' : (startRegisters d s).maxp < c.length := hc
    rw [hk, cycFrom, refill_cons, hx, hsrc']
    simp [pullSrc, hc']
  simp [exec, execTxStart, hv, active_eq_false_iff.2 ht, hd, hfill]

/-- Settles O28: one clause for each operation that takes a number, and the oversize chunk. -/
theorem numbersAboveWAreTakenAsSomeNumberOfTheWindow : Obligations.NumbersAboveWAreTakenAsSomeNumberOfTheWindow := by
  unfold Obligations.NumbersAboveWAreTakenAsSomeNumberOfTheWindow
  exact ⟨fun _ _ ha hsrc => exec_txSlide_above ha hsrc, fun _ p _ ha => exec_ackPost_above p ha,
    fun _ src dst _ ha hroom => exec_rxAck_above src dst ha hroom,
    fun _ now _ h hack ha hsrc => exec_txPoll_above now h hack ha hsrc,
    fun _ _ _ _ hv ht hd hw hsrc hc => exec_txStart_oversize hv ht hd hw hsrc hc⟩

end Sys2Proof.Proofs
end

section
/-! The receiver's operations in the words of the statements (43 R220 to R229): what RX.DATA, RX.ACK and RX.SYNC do to a
table that has an entry or room, and what they do to a full one. -/

namespace Sys2Proof.Proofs

open Sys2Proof.Machine

variable {s : State} {src : PeerId} {seq ack : Nat}

theorem noRoom_eq_true {tab : List (Nat × Nat)} {p : PeerId} (h : Spec.full tab p s) : noRoom tab p s = true := by
  obtain ⟨hnew, hlength⟩ := h
  simp [noRoom, hnew, hlength]

/-! ## RX.DATA -/

theorem receiveData_of_full (h : Spec.full s.rxTab src s) (seq : Nat) (payload : Bytes) :
    receiveData src seq payload s = raise 0x84 .tableFull (.peer src) { peer := some src, seq := some seq } s :=
  if_pos (noRoom_eq_true h)

theorem receiveData_of_expected (hroom : ¬ Spec.full s.rxTab src s) (payload : Bytes) :
    receiveData src (Spec.expectedSeq s src) payload s =
      answerData .okData src (Spec.expectedSeq s src) (Spec.expectedSeq s src) (Spec.expectedSeq s src)
        (setExpected src (cycInc s.n (Spec.expectedSeq s src)) (deliver src payload s)) := by
  rw [receiveData, noRoom_eq_false hroom]
  exact if_pos rfl

theorem receiveData_of_unexpected (hroom : ¬ Spec.full s.rxTab src s) (hne : seq ≠ Spec.expectedSeq s src)
    (payload : Bytes) :
    receiveData src seq payload s =
      answerData .sequenceMismatch src seq (Spec.expectedSeq s src) (cycAdd s.n (Spec.expectedSeq s src) s.w)
        (setExpected src (Spec.expectedSeq s src) s) := by
  rw [receiveData, noRoom_eq_false hroom]
  exact if_neg hne

theorem answerData_eq_acknowledged (result : Status) (src : PeerId) (seq e av : Nat) (s : State) :
    answerData result src seq e av s = Spec.acknowledged result src seq e av s := rfl

/-- Settles O39: with room the number expected takes the accepting branch, which writes one entry of the table. -/
theorem rxDataAcceptsTheExpectedNumber : Obligations.RxDataAcceptsTheExpectedNumber := by
  unfold Obligations.RxDataAcceptsTheExpectedNumber
  intro s src dst payload hroom e
  exact ⟨_, congrArg Host.Outcome.next (receiveData_of_expected hroom payload), rfl,
    tableFind_insert s.rxTab src.toNat _⟩

/-- Settles O40: with room another number takes the mismatch branch, which writes the entry it read; without room the
frame is refused before its number is looked at. -/
theorem rxDataAnswersAMismatch : Obligations.RxDataAnswersAMismatch := by
  unfold Obligations.RxDataAnswersAMismatch
  intro s src dst seq payload
  constructor
  · intro hroom hne e
    exact ⟨_, congrArg Host.Outcome.next (receiveData_of_unexpected hroom hne payload), rfl,
      tableFind_insert s.rxTab src.toNat _⟩
  · intro hfull
    exact congrArg Host.Outcome.next (receiveData_of_full hfull seq payload)

/-! ## What a number written to the receiver table does to `expectedSeq` -/

theorem expectedSeq_setExpected (src : PeerId) (e : Nat) (s : State) (p : PeerId) :
    Spec.expectedSeq (setExpected src e s) p = if p = src then e else Spec.expectedSeq s p := by
  unfold Spec.expectedSeq
  rw [setExpected_rxTab, tableFind_insert]
  simp only [BitVec.toNat_inj]
  split
  · rfl
  · rfl

theorem expectedSeq_answerData (result : Status) (src : PeerId) (seq e av : Nat) (s : State) (p : PeerId) :
    Spec.expectedSeq (answerData result src seq e av s) p = Spec.expectedSeq s p := rfl

theorem expectedSeq_deliver (src : PeerId) (payload : Bytes) (s : State) (p : PeerId) :
    Spec.expectedSeq (deliver src payload s) p = Spec.expectedSeq s p := rfl

theorem expectedSeq_of_rxTab {t : State} (hinit : t.initSeq = s.initSeq) (htab : t.rxTab = s.rxTab) (p : PeerId) :
    Spec.expectedSeq t p = Spec.expectedSeq s p := by
  rw [Spec.expectedSeq, Spec.expectedSeq, hinit, htab]

/-- `add(inc(e), W) = e`: going back one from the successor (00 R14). -/
theorem cycAdd_cycInc {w e : Nat} (h : e ≤ w) : cycAdd (w + 1) (cycInc (w + 1) e) w = e := by
  unfold cycAdd cycInc
  rw [Nat.mod_add_mod, show e + 1 + w = e + (w + 1) by omega, Nat.add_mod_right, Nat.mod_eq_of_lt (by omega)]

/-- Settles O41: the accepting branch sends `e` and expects `inc(e)`, the other sends `add(e, W)` and still expects
`e`. -/
theorem ackNumberIsOneBeforeExpected : Obligations.AckNumberIsOneBeforeExpected := by
  unfold Obligations.AckNumberIsOneBeforeExpected
  intro s t src dst seq payload hle hroom h
  have h : Host.Outcome.next (receiveData src seq payload s) = .next t := h
  by_cases hseq : seq = Spec.expectedSeq s src
  · subst hseq
    rw [receiveData_of_expected hroom] at h
    cases h
    rw [expectedSeq_answerData, expectedSeq_setExpected, if_pos rfl]
    have hback : (cycInc s.n (Spec.expectedSeq s src) + s.w) % (s.w + 1) = Spec.expectedSeq s src := cycAdd_cycInc hle
    rw [hback]
    rfl
  · rw [receiveData_of_unexpected hroom hseq] at h
    cases h
    rw [expectedSeq_answerData, expectedSeq_setExpected, if_pos rfl]
    rfl

/-! ## RX.ACK and RX.SYNC -/

theorem receiveAck_of_full (h : Spec.full s.ackTab src s) (ack : Nat) :
    receiveAck src ack s = raise 0x85 .tableFull (.peer src) { peer := some src, ack := some ack } s :=
  if_pos (noRoom_eq_true h)

theorem receiveAck_of_le (hroom : ¬ Spec.full s.ackTab src s) (hle : ack ≤ s.w) :
    receiveAck src ack s =
      respond .okAck .none
        (writeLog 0x85 .okAck (.ack src ack) { peer := some src, ack := some ack } (setAckEntry src ack s)) := by
  rw [receiveAck, noRoom_eq_false hroom, postAck_of_le hle]
  rfl

/-- Settles O43: with room a number in [0, W] is one point write of the ack table. -/
theorem rxAckPostsTheNumber : Obligations.RxAckPostsTheNumber := by
  unfold Obligations.RxAckPostsTheNumber
  intro s src dst ack
  constructor
  · intro hle hroom
    exact ⟨_, congrArg Host.Outcome.next (receiveAck_of_le hroom hle), rfl, tableFind_insert s.ackTab src.toNat ack⟩
  · intro hfull
    exact congrArg Host.Outcome.next (receiveAck_of_full hfull ack)

/-- What a read finds after an entry of a table in canonical form is removed. -/
theorem tableFind_erase {α : Type} {m : List (Nat × α)} (h : tableWf m = true) (k j : Nat) :
    tableFind (tableErase m k) j = if j = k then none else tableFind m j := by
  split
  · next hj => rw [hj, tableFind_erase_same m k h]
  · next hj => exact tableFind_erase_other m hj

/-- Settles O44: a read of the entry that RX.SYNC removed finds nothing, so INIT is expected (43 R224). -/
theorem rxSyncRemovesTheEntry : Obligations.RxSyncRemovesTheEntry := by
  unfold Obligations.RxSyncRemovesTheEntry
  intro s src dst hwf
  refine ⟨receiveSync src s, rfl, rfl, tableFind_erase hwf src.toNat, ?_⟩
  show (tableFind (tableErase s.rxTab src.toNat) src.toNat).getD s.initSeq = s.initSeq
  rw [tableFind_erase_same _ _ hwf]
  rfl

end Sys2Proof.Proofs
end

section
/-! One datagram (43 R221, R222, R230): how RX.DGRAM drops it, how it dispatches it, and that a step serves every datagram
as one RX.DGRAM of its bytes, whatever the decoder makes of it (44 R260). -/

namespace Sys2Proof.Proofs

open Sys2Proof.Machine

variable {s : State} {d : Bytes}

/-! ## Dropped datagrams -/

/-- Taking in a datagram and decoding it changes the hidden state (20 R61; log 21). -/
theorem received_eq (d : Bytes) (s : State) :
    decTrace d (loadRxbuf d s) = { s with hid := (decTrace d (loadRxbuf d s)).hid } := by
  rw [decTrace_frame]
  rfl

theorem receiveDatagram_of_ok (hv : s.ctl.cfgValid = true) (hrx : s.ctl.rxEn = true) {x : FrameVal}
    (h : decFrame s d = .ok x) :
    receiveDatagram d s =
      if frameDst x ≠ s.localId then
        raise 0x20 .addressMismatch (.address (frameSrc x) (frameDst x) (frameKind x)) (frameSubject x)
          (decTrace d (loadRxbuf d s))
      else receiveFrame x (decTrace d (loadRxbuf d s)) := by
  rw [receiveDatagram, if_neg (by simp [hv, hrx]), h]

theorem frameSubject_eq_aboutFrame (x : FrameVal) : frameSubject x = Spec.aboutFrame x := by
  cases x with
  | data | ack | sync => rfl

/-- An error raised once the datagram is taken in leaves one record and the hidden state. -/
theorem raise_received (op : Byte) (st : Status) (info : LogInfo) (about : LogSubject) (d : Bytes) (s : State) :
    raise op st info about (decTrace d (loadRxbuf d s)) =
      Spec.refusal op st info about
        { s with hid := (raise op st info about (decTrace d (loadRxbuf d s))).hid } := by
  rw [raise_hid]
  conv_lhs => rw [received_eq]
  rfl

/-- Settles O45: both refusals are raised on the state that took the datagram in. -/
theorem rxDgramDropsWhatItCannotTake : Obligations.RxDgramDropsWhatItCannotTake := by
  unfold Obligations.RxDgramDropsWhatItCannotTake
  intro s d hv hrx
  constructor
  · intro e he
    exact ⟨_, congrArg Host.Outcome.next (receiveDatagram_of_error hv hrx he), raise_received _ _ _ _ d s⟩
  · intro x hx hdst
    have hdrop := receiveDatagram_of_ok hv hrx hx
    rw [if_pos hdst, frameSubject_eq_aboutFrame] at hdrop
    exact ⟨_, congrArg Host.Outcome.next hdrop, raise_received _ _ _ _ d s⟩

/-! ## Dispatched datagrams -/

/-- A datagram that passes the length test is no longer than the receive buffer (20 R61). -/
theorem length_le_maxf_of_decHead {kind : FrameKind} (h : decHead s d = .ok kind) : d.length ≤ s.maxf := by
  obtain ⟨hs, hl⟩ := decHead_eq_ok_iff.1 h
  rw [State.maxf]
  by_cases hdata : d.head? = some s.par.flagData
  · exact ((lengthFits_of_data hdata).1 hl).2
  · exact ((lengthFits_of_not_data hdata).1 hl).le.trans (Nat.le_add_right _ _)

/-- Past the length test the receive buffer holds the whole datagram and the accumulator its check value. -/
theorem received_of_decHead {kind : FrameKind} (h : decHead s d = .ok kind) :
    decTrace d (loadRxbuf d s) = Spec.withDatagram d s := by
  have hload : decHead (loadRxbuf d s) d = .ok kind := (decHead_of_cfg rfl rfl d).trans h
  rw [decTrace_of_decHead hload, loadRxbuf, List.take_of_length_le (length_le_maxf_of_decHead h)]
  rfl

/-- A datagram that DEC accepts and that is addressed to the core is dispatched by its kind (43 R221). -/
theorem receiveDatagram_dispatches (hv : s.ctl.cfgValid = true) (hrx : s.ctl.rxEn = true) {kind : FrameKind}
    (hh : decHead s d = .ok kind) {x : FrameVal} (hx : decFrame s d = .ok x) (hdst : frameDst x = s.localId) :
    receiveDatagram d s = receiveFrame x (Spec.withDatagram d s) := by
  rw [receiveDatagram_of_ok hv hrx hx, if_neg (not_not.2 hdst), received_of_decHead hh]

section

variable {p q : PeerId} {v : Nat} {c : Bytes}

theorem decFrame_built_data (hc : c.length ≤ s.maxp) (hv : v ≤ s.w) (hne : p ≠ q) :
    decFrame s (Spec.built s s.par.flagData p q v c) = .ok (.data p q v c) := by
  rw [decFrame_built (decHead_frameData hc) hv hne]
  simp only [decValue, built_eq_frameBytes, fieldSrc_frameBytes, fieldDst_frameBytes,
    fieldSeq_frameBytes (hv.trans_lt (w_lt_pow_seqb s)), fieldPayload_frameBytes]

theorem decFrame_built_ack (hf : s.par.flagsDiffer = true) (hv : v ≤ s.w) (hne : p ≠ q) :
    decFrame s (Spec.built s s.par.flagAck p q v []) = .ok (.ack p q v) := by
  rw [decFrame_built (decHead_frameAck hf) hv hne]
  simp only [decValue, built_eq_frameBytes, fieldSrc_frameBytes, fieldDst_frameBytes,
    fieldSeq_frameBytes (hv.trans_lt (w_lt_pow_seqb s))]

/-- DEC does not look at the sequence field of a Sync frame (41 R155). -/
theorem decFrame_built_sync (hf : s.par.flagsDiffer = true) (hne : p ≠ q) (v : Nat) :
    decFrame s (Spec.built s s.par.flagSync p q v []) = .ok (.sync p q) := by
  refine decFrame_eq_ok_iff.2
    ⟨.sync, decHead_frameSync hf, crcMatches_frameBytes.2 rfl, fun hk => absurd rfl hk, ?_, ?_⟩
  · rwa [built_eq_frameBytes, fieldSrc_frameBytes, fieldDst_frameBytes]
  · simp only [decValue, built_eq_frameBytes, fieldSrc_frameBytes, fieldDst_frameBytes]

end

/-- Settles O46: DEC reads a built frame's own fields, and the dispatch is on its kind. -/
theorem framesForThisCoreAreDispatched : Obligations.FramesForThisCoreAreDispatched := by
  unfold Obligations.FramesForThisCoreAreDispatched
  intro s src hv hrx hf hne
  have dispatch {d : Bytes} {kind : FrameKind} (hh : decHead s d = .ok kind) {x : FrameVal}
      (hx : decFrame s d = .ok x) (hdst : frameDst x = s.localId) :
      exec (.rxDgram d) s = .next (receiveFrame x (Spec.withDatagram d s)) :=
    congrArg Host.Outcome.next (receiveDatagram_dispatches hv hrx hh hx hdst)
  refine ⟨fun seq payload hseq hpayload => ?_, fun ack hack => ?_, fun v _ => ?_⟩
  · have h := dispatch (decHead_frameData hpayload) (decFrame_built_data hpayload hseq hne) rfl
    exact ⟨_, h, h, rfl⟩
  · have h := dispatch (decHead_frameAck hf) (decFrame_built_ack hf hack hne) rfl
    exact ⟨_, h, h, rfl⟩
  · have h := dispatch (decHead_frameSync hf) (decFrame_built_sync hf hne v) rfl
    exact ⟨_, h, h, rfl⟩

/-! ## Serving a datagram -/

/-- Executing a frame that was decoded from a datagram is one RX.DGRAM of that datagram: the frame's bytes are its bytes
(30 R91, R97). -/
theorem exec_of_decodeFrame {i : Instr} (h : decodeFrame s.mode d = .ok i) : exec i s = exec (.rxDgram d) s := by
  obtain ⟨-, hencode⟩ := decodedDatagramsEncodeToThemselves s.mode d i h
  cases i with
  | frameData | frameAck | frameSync =>
    cases hencode
    rfl
  | _ => cases hencode

theorem step_of_datagram {rest : List Presented} (hq : s.requests = .datagram d :: rest) :
    step s = exec (.rxDgram d) (takeRequest (.datagram d) rest s) := by
  cases hd : decode s.mode (.datagram d) with
  | ok i => exact (step_of_decode_ok hq hd).trans (exec_of_decodeFrame (s := takeRequest (.datagram d) rest s) hd)
  | error e => exact step_of_decode_error hq hd

theorem step_of_rxDgram_command {line : Line} {f : Fields} {rest : List Presented}
    (hq : s.requests = .command line 0x20 f :: rest) :
    step s = exec (.rxDgram f.s) (takeRequest (.command line 0x20 f) rest s) :=
  step_of_decode_ok hq (decode_command_ok_iff.2 ⟨rfl, fun hsub => absurd hsub (by decide)⟩)

/-- Whatever becomes of a frame, the answer goes to the line being served. -/
theorem receiveFrame_responseLine (x : FrameVal) (s : State) :
    (receiveFrame x s).resp.map Response.line = some s.line := by
  cases x with
  | data src dst seq payload =>
    show (receiveData src seq payload s).resp.map _ = _
    rcases receiveData_cases src seq payload s with h | ⟨-, h | h⟩ <;> rw [h] <;> rfl
  | ack src dst ack =>
    show (receiveAck src ack s).resp.map _ = _
    rcases receiveAck_cases src ack s with ⟨-, h⟩ | ⟨-, h⟩ <;> rw [h]
    · rfl
    · exact congrArg some (noteNumber_line ack s)
  | sync src dst => rfl

theorem receiveDatagram_responseLine (d : Bytes) (s : State) :
    (receiveDatagram d s).resp.map Response.line = some s.line := by
  have hline : some (decTrace d (loadRxbuf d s)).line = some s.line :=
    congrArg some (received_sameButReply d s).line
  rcases receiveDatagram_cases d s with ⟨-, h⟩ | ⟨-, -, ⟨e, -, h⟩ | ⟨x, -, -, h⟩ | ⟨x, -, -, h⟩⟩ <;> rw [h]
  · rfl
  · exact hline
  · exact hline
  · exact (receiveFrame_responseLine x _).trans hline

/-- Settles O3: both requests are served as RX.DGRAM on the receive role's line, and RX.DGRAM answers on the line it is
served on. -/
theorem everyDatagramIsOneRxDgram : Obligations.EveryDatagramIsOneRxDgram := by
  unfold Obligations.EveryDatagramIsOneRxDgram
  intro s rest
  refine ⟨fun d hq => step_of_datagram hq, fun line f hq => step_of_rxDgram_command hq, ?_⟩
  rintro t d line f (hq | hq) h
  · rw [step_of_datagram hq] at h
    cases h
    exact receiveDatagram_responseLine d _
  · rw [step_of_rxDgram_command hq] at h
    cases h
    exact receiveDatagram_responseLine f.s _

end Sys2Proof.Proofs
end

section
/-! Delivery in sequence order (43 R223, R226): which operations leave the sink, and what the receiver's operations do to
the sink and to `expectedSeq` together. -/

namespace Sys2Proof.Proofs

open Sys2Proof.Machine

variable {s t : State} {i : Instr}

/-! ## Operations that leave the sink -/

theorem writeCfg_sink {r : Nat} {x : BitVec 48} (h : writeCfg r x s = some t) : t.sink = s.sink := by
  unfold writeCfg at h
  split at h <;> cases h <;> rfl

theorem execCfgSet_sink {r : Nat} {x : BitVec 48} (h : execCfgSet r x s = .next t) : t.sink = s.sink := by
  unfold execCfgSet at h
  split at h
  · cases h; rfl
  · split at h
    · cases h; rfl
    · next h1 =>
      have hsink := writeCfg_sink h1
      cases h; exact hsink

theorem execCfgCommit_sink (h : execCfgCommit s = .next t) : t.sink = s.sink := by
  unfold execCfgCommit at h
  split at h
  · cases h; rfl
  · split at h <;> cases h <;> rfl

theorem slideTo_sink {a : Nat} (h : slideTo a s = .ok t) : t.sink = s.sink := by
  obtain ⟨t1, -, hf, rfl⟩ := slideTo_cases h
  exact hf.sink

theorem pollRewind_sink (oldC dAck dCur : Nat) (ack : Option Nat) (s : State) :
    (pollRewind oldC dAck dCur ack s).sink = s.sink := by
  rw [pollRewind_eq]
  rfl

theorem normalise_sink (dAck dCur : Nat) (s : State) : (normalise dAck dCur s).sink = s.sink := by
  unfold normalise
  split <;> rfl

theorem pollSend_sink (now : Nat) (ack : Option Nat) (s : State) : (pollSend now ack s).sink = s.sink := by
  simp only [pollSend]
  split_ifs <;> rfl

theorem pollAfterSlide_sink (now oldC dAck dCur : Nat) (ack : Option Nat) (s : State) :
    (pollAfterSlide now oldC dAck dCur ack s).sink = s.sink := by
  have hnote : (noteExhaustion s).sink = s.sink := by rw [noteExhaustion_eq]; rfl
  cases hterm : isTerminal ack s with
  | true => rw [pollAfterSlide_of_terminal hterm]; rfl
  | false =>
    by_cases hu : Spec.unhealthy now s
    · rw [pollAfterSlide_of_unhealthy hterm hu, pollRewind_sink, hnote]
    · rw [pollAfterSlide_of_healthy hterm hu, pollSend_sink, normalise_sink, hnote]

theorem pollBegin_sink (s : State) : (pollBegin s).sink = s.sink := by
  unfold pollBegin
  cases postedAck s with
  | none => rfl
  | some a => exact noteNumber_sink a s

theorem execTxPoll_sink {now : Nat} (h : execTxPoll now s = .next t) : t.sink = s.sink := by
  rcases execTxPoll_cases h with rfl | ⟨-, -, s1, dAck, dCur, h1, rfl⟩
  · rfl
  · rw [pollAfterSlide_sink]
    rcases pollSlide_cases h1 with rfl | ⟨a, -, h1⟩
    · exact pollBegin_sink s
    · exact (slideTo_sink h1).trans (pollBegin_sink s)

theorem receiveAck_sink (src : PeerId) (ack : Nat) (s : State) : (receiveAck src ack s).sink = s.sink := by
  rcases receiveAck_cases src ack s with ⟨-, h⟩ | ⟨-, h⟩ <;> rw [h]
  · rfl
  · exact noteNumber_sink ack s

/-- The operations of the receiver that move an `expectedSeq`: a datagram, RX.DATA and RX.SYNC. -/
abbrev ServesPeer (i : Instr) : Prop :=
  Spec.takesDatagram i = true ∨ (∃ src dst seq payload, i = .rxData src dst seq payload) ∨ ∃ src dst, i = .rxSync src dst

theorem exec_sink (hi : ¬ ServesPeer i) (h : exec i s = .next t) : t.sink = s.sink := by
  cases i with
  | rxDgram | frameData | frameAck | frameSync => exact absurd (.inl rfl) hi
  | rxData src dst seq payload => exact absurd (.inr (.inl ⟨src, dst, seq, payload, rfl⟩)) hi
  | rxSync src dst => exact absurd (.inr (.inr ⟨src, dst, rfl⟩)) hi
  | cfgSet r x => exact execCfgSet_sink h
  | cfgCommit => exact execCfgCommit_sink h
  | rxRun =>
    simp only [exec, execRxRun] at h
    split at h <;> cases h <;> rfl
  | syncSend d =>
    simp only [exec, execSyncSend] at h
    split_ifs at h <;> cases h <;> rfl
  | txStart d =>
    rcases execTxStart_cases h with ⟨st, info, rfl⟩ | ⟨-, -, -, s1, h1, rfl⟩
    · rfl
    · exact (refill_frame h1).sink
  | txPoll now => exact execTxPoll_sink h
  | txAbort => rcases execTxAbort_cases h with rfl | ⟨-, -, rfl⟩ <;> rfl
  | txSlide a =>
    obtain ⟨s1, h1, rfl⟩ := execTxSlide_cases h
    exact (slideTo_sink h1).trans (noteNumber_sink a s)
  | ackPost p a => cases h; exact noteNumber_sink a s
  | rxAck src dst ack => cases h; exact receiveAck_sink src ack s
  | reset | rxStop | ackDrain => cases h; rfl
  | _ => exact (exec_sameButReply rfl h).sink

/-- Only the receiver, RESET and CFG.COMMIT write the receiver table; what else moves an `expectedSeq` is a new INIT. -/
theorem exec_expectedSeq (hi : ¬ ServesPeer i) (hreset : i ≠ .reset) (hcommit : i ≠ .cfgCommit)
    (h : exec i s = .next t) (hinit : t.initSeq = s.initSeq) (p : PeerId) :
    Spec.expectedSeq t p = Spec.expectedSeq s p := by
  have htab : t.rxTab = s.rxTab := by
    by_contra hne
    rcases (exec_ownersOnly h).rxTab hne with hd | hdata | hsync | hc | hr
    · exact hi (.inl hd)
    · exact hi (.inr (.inl hdata))
    · exact hi (.inr (.inr hsync))
    · exact hcommit hc
    · exact hreset hr
  exact expectedSeq_of_rxTab hinit htab p

/-! ## What the receiver delivers -/

/-- Everything one of the receiver's operations can do to the sink and to `expectedSeq`: nothing, forget a peer and answer
OK_SYNC, or deliver the payload of the number expected of `src` and expect its successor (43 R223, R229). -/
inductive DeliveryStep (s t : State) : Prop
  | nothing (sink : t.sink = s.sink) (expected : ∀ p, Spec.expectedSeq t p = Spec.expectedSeq s p)
  | synced (sink : t.sink = s.sink) (status : ∃ r, t.resp = some r ∧ r.status = .okSync)
  | delivered (src : PeerId) (payload : Bytes) (sink : t.sink = s.sink ++ [{ srcPeer := src, payload := payload }])
      (log : t.log = s.log ++ [Spec.acceptRecord src (Spec.expectedSeq s src)])
      (own : Spec.expectedSeq t src = (Spec.expectedSeq s src + 1) % (s.w + 1))
      (others : ∀ p, p ≠ src → Spec.expectedSeq t p = Spec.expectedSeq s p)

/-- The hidden state plays no part in a delivery. -/
theorem DeliveryStep.of_hidden {hid : Hidden} (k : DeliveryStep { s with hid := hid } t) : DeliveryStep s t := by
  cases k with
  | nothing sink expected => exact .nothing sink expected
  | synced sink status => exact .synced sink status
  | delivered src payload sink log own others => exact .delivered src payload sink log own others

theorem receiveData_deliveryStep (src : PeerId) (seq : Nat) (payload : Bytes) (s : State) :
    DeliveryStep s (receiveData src seq payload s) := by
  by_cases hfull : Spec.full s.rxTab src s
  · rw [receiveData_of_full hfull]
    exact .nothing rfl fun _ => rfl
  by_cases hseq : seq = Spec.expectedSeq s src
  · subst hseq
    rw [receiveData_of_expected hfull]
    refine .delivered src payload rfl rfl ?_ fun p hp => ?_
    · rw [expectedSeq_answerData, expectedSeq_setExpected, if_pos rfl]
      rfl
    · rw [expectedSeq_answerData, expectedSeq_setExpected, if_neg hp, expectedSeq_deliver]
  · rw [receiveData_of_unexpected hfull hseq]
    refine .nothing rfl fun p => ?_
    rw [expectedSeq_answerData, expectedSeq_setExpected]
    split
    · next hp => rw [hp]
    · rfl

theorem receiveFrame_deliveryStep (x : FrameVal) (s : State) : DeliveryStep s (receiveFrame x s) := by
  cases x with
  | data src dst seq payload => exact receiveData_deliveryStep src seq payload s
  | ack src dst ack =>
    obtain ⟨hf, hrx, -⟩ := receiveAck_footprint src ack s
    exact .nothing (receiveAck_sink src ack s) (expectedSeq_of_rxTab (initSeq_of_cfg hf.cfg) hrx)
  | sync src dst => exact .synced rfl ⟨_, rfl, rfl⟩

theorem receiveDatagram_deliveryStep (d : Bytes) (s : State) : DeliveryStep s (receiveDatagram d s) := by
  rcases receiveDatagram_cases d s with ⟨-, h⟩ | ⟨-, -, ⟨e, -, h⟩ | ⟨x, -, -, h⟩ | ⟨x, -, -, h⟩⟩ <;> rw [h]
  · exact .nothing rfl fun _ => rfl
  · rw [received_eq]; exact .nothing rfl fun _ => rfl
  · rw [received_eq]; exact .nothing rfl fun _ => rfl
  · rw [received_eq]; exact (receiveFrame_deliveryStep x _).of_hidden

theorem exec_deliveryStep (hi : ServesPeer i) (h : exec i s = .next t) : DeliveryStep s t := by
  rcases hi with hd | ⟨src, dst, seq, payload, rfl⟩ | ⟨src, dst, rfl⟩
  · obtain ⟨d, rfl⟩ := exec_of_takesDatagram hd h
    exact receiveDatagram_deliveryStep d s
  · cases h; exact receiveData_deliveryStep src seq payload s
  · cases h; exact .synced rfl ⟨_, rfl, rfl⟩

/-- Settles O48: the receiver's operations deliver in order, and no other operation delivers. -/
theorem deliveryIsInSequenceOrder : Obligations.DeliveryIsInSequenceOrder := by
  unfold Obligations.DeliveryIsInSequenceOrder
  intro i s t h
  by_cases hi : ServesPeer i
  · cases exec_deliveryStep hi h with
    | nothing sink expected => exact .inl ⟨sink, fun _ _ _ p => .inl (expected p)⟩
    | synced sink status => exact .inl ⟨sink, fun _ _ _ _ => .inr status⟩
    | delivered src payload sink log own others => exact .inr ⟨src, payload, sink, log, own, others⟩
  · exact .inl ⟨exec_sink hi h, fun hinit hreset hcommit p => .inl (exec_expectedSeq hi hreset hcommit h hinit p)⟩

end Sys2Proof.Proofs
end

section
/-! The host operations in the words of the statements (44 R261 to R266): the register map and its single writes, the four
tests of CFG.COMMIT and what a commit puts in force, the receive role, and the Sync frame of SYNC.SEND. -/

namespace Sys2Proof.Proofs

open Sys2Proof.Machine

variable {s : State} {test : Nat} {value : BitVec 32}

/-! ## CFG.SET (44 R262) -/

theorem cfgLocked_eq_false_iff : s.cfgLocked = false ↔ ¬ Spec.locked s := by
  rw [← cfgLocked_iff, Bool.not_eq_true]

theorem writeCfg_eq (r : Nat) (x : BitVec 48) (s : State) :
    writeCfg r x s = if r ≤ 4 then some { s with cfg := Spec.withRegister r x s.cfg } else none := by
  match r with
  | 0 | 1 | 2 | 3 | 4 => rfl
  | n + 5 => exact (if_neg (by omega)).symm

theorem exec_cfgSet (hlock : ¬ Spec.locked s) {r : Nat} (hr : r ≤ 4) (x : BitVec 48) :
    exec (.cfgSet r x) s =
      .next (respond .ok .none (setCfgValid false { s with cfg := Spec.withRegister r x s.cfg })) := by
  simp only [exec, execCfgSet, cfgLocked_eq_false_iff.2 hlock, writeCfg_eq, if_pos hr, Bool.false_eq_true, if_false]

theorem exec_cfgSet_refused {r : Nat} (h : Spec.locked s ∨ 4 < r) (x : BitVec 48) :
    exec (.cfgSet r x) s = .next (raiseState 0x01 {} s) := by
  simp only [exec, execCfgSet]
  split
  · rfl
  · next hlock =>
    have hr : 4 < r := h.resolve_left fun hl => hlock (cfgLocked_iff.2 hl)
    rw [writeCfg_eq, if_neg hr.not_ge]

/-- Settles O19: register numbers 0 to 4 are those that CFG.SET writes, on a core that is not locked. -/
theorem cfgSetWritesOneRegister : Obligations.CfgSetWritesOneRegister := by
  unfold Obligations.CfgSetWritesOneRegister
  exact fun s r x => ⟨fun hlock hr => exec_cfgSet hlock hr x, fun h => exec_cfgSet_refused h x⟩

/-! ## CFG.COMMIT (44 R263) -/

theorem exec_cfgCommit_of_locked (hlock : Spec.locked s) : exec .cfgCommit s = .next (raiseState 0x02 {} s) :=
  if_pos (cfgLocked_iff.2 hlock)

theorem exec_cfgCommit_of_legal (hlock : ¬ Spec.locked s) (h : cfgFailure s = none) :
    exec .cfgCommit s =
      .next (respond .ok .none
        (setCfgValid true (setDerived (s.cfg.w + 1) (BitVec.ofNat 8 s.seqb) (clearProtocol s)))) := by
  simp only [exec, execCfgCommit, cfgLocked_eq_false_iff.2 hlock, h, Bool.false_eq_true, if_false]

theorem exec_cfgCommit_of_illegal (hlock : ¬ Spec.locked s) (h : cfgFailure s = some (test, value)) :
    exec .cfgCommit s =
      .next (raise 0x02 .configurationError (.config test value) {}
        (setCfgValid false (setDerived 0 0 (clearProtocol s)))) := by
  simp only [exec, execCfgCommit, cfgLocked_eq_false_iff.2 hlock, h, Bool.false_eq_true, if_false]

/-- A commit empties every slot, in the window or beyond it: a slot it leaves listed is the emptied one of before. -/
theorem isEmpty_slot_clearProtocol (s : State) (i : Nat) : Spec.isEmpty ((clearProtocol s).slot i) := by
  unfold State.slot slotRead
  cases hfind : tableFind (clearProtocol s).tx.slots i with
  | none => exact isEmpty_blank
  | some x =>
    obtain ⟨e, -, he⟩ := List.mem_map.1 (List.mem_filter.1 (mem_of_tableFind hfind)).1
    cases he
    exact isEmpty_slotEmptied e.2

/-! ### SEQB (30 R94) -/

theorem one_le_seqb (s : State) : 1 ≤ s.seqb := by
  unfold State.seqb seqBytesOf
  split_ifs <;> omega

/-- SEQB is the least number of bytes that hold N values. -/
theorem pow_lt_n_of_lt_seqb {m : Nat} (hm : 1 ≤ m) (h : m < s.seqb) : 256 ^ m < s.w + 1 := by
  unfold State.seqb seqBytesOf at h
  split_ifs at h <;> interval_cases m <;> omega

/-- `SEQ_BYTES` is an 8-bit register, and SEQB fits it. -/
theorem toNat_ofNat_seqb (s : State) : (BitVec.ofNat 8 s.seqb).toNat = s.seqb := by
  have hle : s.seqb ≤ 4 := seqb_le s
  rw [BitVec.toNat_ofNat, Nat.mod_eq_of_lt (by omega)]

/-- Settles O20: a legal configuration passes the four tests, and the slots of the cleared state are empty. -/
theorem cfgCommitPutsLegalConfigurationInForce : Obligations.CfgCommitPutsLegalConfigurationInForce := by
  unfold Obligations.CfgCommitPutsLegalConfigurationInForce
  intro s hlock hw hwMax hmaxp hmaxpMax hinit hinitW
  have hlegal : cfgFailure s = none := (cfgFailure_eq_none s).2 ⟨⟨hw, hwMax⟩, ⟨hmaxp, hmaxpMax⟩, hinit, hinitW⟩
  refine ⟨_, BitVec.ofNat 8 s.seqb, exec_cfgCommit_of_legal hlock hlegal, rfl, isEmpty_slot_clearProtocol s, ?_⟩
  rw [toNat_ofNat_seqb]
  exact ⟨one_le_seqb s, w_lt_pow_seqb s, fun m hm h => pow_lt_n_of_lt_seqb hm h⟩

/-! ### The four tests (60 R295) -/

theorem cfgFailure_of_w (h : ¬ (1 ≤ s.w ∧ s.w ≤ s.par.wMax)) : cfgFailure s = some (1, s.cfg.w) := if_pos h

theorem cfgFailure_of_maxp (hw : 1 ≤ s.w ∧ s.w ≤ s.par.wMax) (h : ¬ (1 ≤ s.maxp ∧ s.maxp ≤ 4096)) :
    cfgFailure s = some (2, s.cfg.maxp) := by
  rw [cfgFailure, if_neg (not_not.2 hw), if_pos h]

theorem cfgFailure_of_initSeq (hw : 1 ≤ s.w ∧ s.w ≤ s.par.wMax) (hmaxp : 1 ≤ s.maxp ∧ s.maxp ≤ 4096)
    (h : 254 < s.initSeq) : cfgFailure s = some (3, s.cfg.initSeq) := by
  rw [cfgFailure, if_neg (not_not.2 hw), if_neg (not_not.2 hmaxp), if_pos h.not_ge]

theorem cfgFailure_of_initSeq_above_w (hw : 1 ≤ s.w ∧ s.w ≤ s.par.wMax) (hmaxp : 1 ≤ s.maxp ∧ s.maxp ≤ 4096)
    (hinit : s.initSeq ≤ 254) (h : s.w < s.initSeq) : cfgFailure s = some (4, s.cfg.initSeq) := by
  rw [cfgFailure, if_neg (not_not.2 hw), if_neg (not_not.2 hmaxp), if_neg (not_not.2 hinit), if_pos h.not_ge]

/-- Settles O21: the first test that fails decides, and the state is cleared before the error is raised. -/
theorem cfgCommitRefusesIllegalConfiguration : Obligations.CfgCommitRefusesIllegalConfiguration := by
  unfold Obligations.CfgCommitRefusesIllegalConfiguration
  refine fun s => ⟨exec_cfgCommit_of_locked, fun test value hlock hfirst => ?_⟩
  have hfail : cfgFailure s = some (test, value) := by
    rcases hfirst with ⟨rfl, rfl, h⟩ | ⟨rfl, rfl, hw, h⟩ | ⟨rfl, rfl, hw, hmaxp, h⟩ | ⟨rfl, rfl, hw, hmaxp, hinit, h⟩
    · exact cfgFailure_of_w h
    · exact cfgFailure_of_maxp hw h
    · exact cfgFailure_of_initSeq hw hmaxp h
    · exact cfgFailure_of_initSeq_above_w hw hmaxp hinit h
  exact ⟨_, exec_cfgCommit_of_illegal hlock hfail, rfl, isEmpty_slot_clearProtocol s⟩

/-! ## CSR.READ (44 R261) -/

theorem ctrlBits_eq (s : State) : ctrlBits s = s.ctl.rxEn.toNat + 2 * s.ctl.cfgValid.toNat := by
  unfold ctrlBits
  cases s.ctl.rxEn <;> cases s.ctl.cfgValid <;> rfl

theorem txFlagBits_eq (s : State) : txFlagBits s = s.tx.exhausted.toNat + 2 * s.tx.aborted.toNat := by
  unfold txFlagBits
  cases s.tx.exhausted <;> cases s.tx.aborted <;> rfl

theorem txEosBits_eq (s : State) : txEosBits s = 65536 * s.tx.eosValid.toNat + s.tx.eos % 65536 := by
  unfold txEosBits
  cases s.tx.eosValid <;> rfl

/-- Before the first commit W is not known, and `TX_BEGIN` reads 0 (10 R41). -/
theorem csrValue_txBegin (s : State) :
    csrValue s 0x23 = some (BitVec.ofNat 64
      (if s.ctl.cfgValid then (s.tx.unusedPoint + 1) % (s.w + 1) % 65536 else 0)) := by
  show some (if s.ctl.cfgValid then _ else _) = _
  split <;> rfl

/-- Each row of the register map is what CSR.READ finds: a register shorter than 64 bits is zero-extended. -/
theorem csrValue_of_mem_registers (s : State) :
    ∀ e ∈ Spec.registers s, csrValue s e.1 = some (BitVec.ofNat 64 e.2) := by
  simp only [Spec.registers, List.forall_mem_cons, BitVec.ofNat_toNat, ← ctrlBits_eq, ← txFlagBits_eq, ← txEosBits_eq]
  refine ⟨rfl, rfl, rfl, rfl, rfl, rfl, rfl, rfl, ?_, rfl, rfl, csrValue_txBegin s, rfl, rfl, rfl, rfl, rfl,
    List.forall_mem_nil _⟩
  show some (BitVec.ofNat 64 (txStateCode s.tx.txState)) = _
  cases s.tx.txState <;> rfl

/-- A number that the register map does not list has no value. -/
theorem csrValue_of_not_listed {r : Nat} (h : r ∉ (Spec.registers s).map Prod.fst) : csrValue s r = none := by
  unfold csrValue
  split
  rotate_right
  · rfl
  all_goals exact absurd (by simp [Spec.registers]) h

theorem exec_csrRead_of_some {r : Nat} {x : BitVec 64} (h : csrValue s r = some x) :
    exec (.csrRead r) s = .next (respond .ok (.register x) s) := by
  simp only [exec, execCsrRead, h]

theorem exec_csrRead_of_none {r : Nat} (h : csrValue s r = none) :
    exec (.csrRead r) s = .next (raiseState 0x03 {} s) := by
  simp only [exec, execCsrRead, h]

/-- Settles O22: the register map row by row, and no other number has a value. -/
theorem csrReadReturnsTheRegister : Obligations.CsrReadReturnsTheRegister := by
  unfold Obligations.CsrReadReturnsTheRegister
  exact fun s => ⟨fun e he => exec_csrRead_of_some (csrValue_of_mem_registers s e he),
    fun r hr => exec_csrRead_of_none (csrValue_of_not_listed hr)⟩

/-! ## RX.RUN and RX.STOP (44 R264, R265) -/

theorem exec_rxRun (hv : s.ctl.cfgValid = true) : exec .rxRun s = .next (respond .ok .none (setRxEn true s)) :=
  if_neg (by simp [hv])

theorem exec_rxStop (s : State) : exec .rxStop s = .next (respond .ok .none (setRxEn false s)) := rfl

/-- A core that does not receive refuses a datagram unread (43 R232). -/
theorem receiveDatagram_of_rxEn_eq_false (hrx : s.ctl.rxEn = false) (d : Bytes) :
    receiveDatagram d s = raiseState 0x20 {} s :=
  if_pos (.inr hrx)

/-- Settles O23: both operations write RX_EN alone, and RX.DGRAM tests it. -/
theorem rxRunAndRxStopSwitchTheReceiveRole : Obligations.RxRunAndRxStopSwitchTheReceiveRole := by
  unfold Obligations.RxRunAndRxStopSwitchTheReceiveRole
  refine fun s => ⟨exec_rxRun, exec_rxStop s, fun t d h => ?_⟩
  have hstopped : t.ctl.rxEn = false := by
    rw [exec_rxStop] at h
    cases h
    rfl
  exact congrArg Host.Outcome.next (receiveDatagram_of_rxEn_eq_false hstopped d)

/-! ## SYNC.SEND (44 R266) -/

theorem exec_syncSend (hv : s.ctl.cfgValid = true) (d : PeerId) :
    exec (.syncSend d) s = .next
      (if d = s.localId then raise 0x06 .peerIdentityCollision (.collision d) { peer := some d } s
      else respond .ok .none
        (writeLog 0x06 .ok (.peer d) { peer := some d }
          (emitFrame (buildFrame s.par.flagSync s.localId d 0 [] s) .sync false
            (stageFrame s.par.flagSync s.localId d 0 [] s)))) := by
  show execSyncSend d s = _
  rw [execSyncSend, if_neg (by simp [hv])]
  split_ifs <;> rfl

/-- Settles O24: the frame SYNC.SEND stages is the one it emits. -/
theorem syncSendEmitsOneSyncFrame : Obligations.SyncSendEmitsOneSyncFrame := by
  unfold Obligations.SyncSendEmitsOneSyncFrame
  refine fun s d hv => ⟨fun hne => ?_, fun he => ?_⟩
  · rw [exec_syncSend hv, if_neg hne]
    rfl
  · rw [exec_syncSend hv, if_pos he]
    rfl

end Sys2Proof.Proofs
end

section
/-! Every operation ends well (60 R300, R305): a refusal writes its one LOG record and the hidden state, every other end is
no error but a failed CFG.COMMIT, and only the operations that pull from SRC can stop the machine (42 R181). -/

namespace Sys2Proof.Proofs

open Sys2Proof.Machine

variable {s t v : State} {i : Instr}

/-! ## How an operation ends -/

/-- `t` is `s` with one refusal: a LOG record, the answer with its status and no value, and possibly other hidden state
(60 R300). -/
def Refused (s t : State) : Prop :=
  ∃ rec : LogRecord,
    t = { s with
      hid := t.hid, log := s.log ++ [rec], resp := some { line := s.line, status := rec.status, value := .none } }

/-- The answer in `t` is no error, or the ConfigurationError of a failed CFG.COMMIT (44 R263). -/
def Completed (t : State) : Prop :=
  ∀ r, t.resp = some r → isError r.status = true → r.status = .configurationError

/-- An operation on `s` with outcome `o` goes on, refused or completed. -/
def Ends (s : State) (o : Host.Outcome State Fault Refusal) : Prop :=
  ∃ t, o = .next t ∧ (Refused s t ∨ Completed t)

/-- An error raised on a state that differs from `s` in the hidden state alone is a refusal. -/
theorem refused_raise (h : v = { s with hid := v.hid }) (op : Byte) (st : Status) (info : LogInfo) (about : LogSubject) :
    Refused s (raise op st info about v) := by
  refine ⟨{ op := op, status := st, info := info, subject := about }, ?_⟩
  rw [h]
  rfl

theorem completed_respond {st : Status} (h : isError st = false) (x : Value) (v : State) :
    Completed (respond st x v) := by
  intro r hr he
  cases hr
  exact absurd (h.symm.trans he) Bool.false_ne_true

theorem ends_raise (op : Byte) (st : Status) (info : LogInfo) (about : LogSubject) (s : State) :
    Ends s (.next (raise op st info about s)) :=
  ⟨_, rfl, .inl (refused_raise rfl op st info about)⟩

theorem ends_raiseState (op : Byte) (about : LogSubject) (s : State) : Ends s (.next (raiseState op about s)) :=
  ends_raise _ _ _ _ s

theorem ends_ok (x : Value) (s v : State) : Ends s (.next (respond .ok x v)) :=
  ⟨_, rfl, .inr (completed_respond rfl x v)⟩

/-! ## The codec and the host operations -/

theorem decTrace_eq (d : Bytes) (s : State) : decTrace d s = { s with hid := (decTrace d s).hid } := by
  rw [decTrace_frame]

theorem execEncData_ends (src dst : PeerId) (seq : Nat) (payload : Bytes) (s : State) :
    Ends s (execEncData src dst seq payload s) := by
  simp only [execEncData]
  split_ifs
  · exact ends_raiseState _ _ s
  · exact ends_raise _ _ _ _ s
  · exact ends_raise _ _ _ _ s
  · exact ends_raise _ _ _ _ s
  · exact ends_ok _ s _

theorem execEncAck_ends (src dst : PeerId) (ack : Nat) (s : State) : Ends s (execEncAck src dst ack s) := by
  simp only [execEncAck]
  split_ifs
  · exact ends_raiseState _ _ s
  · exact ends_raise _ _ _ _ s
  · exact ends_raise _ _ _ _ s
  · exact ends_ok _ s _

theorem execEncSync_ends (src dst : PeerId) (s : State) : Ends s (execEncSync src dst s) := by
  simp only [execEncSync]
  split_ifs
  · exact ends_raiseState _ _ s
  · exact ends_raise _ _ _ _ s
  · exact ends_ok _ s _

theorem execDec_ends (d : Bytes) (s : State) : Ends s (execDec d s) := by
  unfold execDec
  split
  · exact ends_raiseState _ _ s
  · split
    · exact ⟨_, rfl, .inl (refused_raise (decTrace_eq d s) _ _ _ _)⟩
    · exact ends_ok _ s _

theorem execCrcChk_ends (d : Bytes) (s : State) : Ends s (execCrcChk d s) := by
  unfold execCrcChk
  split
  · exact ends_raiseState _ _ s
  · exact ends_ok _ s _

theorem execCsrRead_ends (r : Nat) (s : State) : Ends s (execCsrRead r s) := by
  unfold execCsrRead
  split
  · exact ends_raiseState _ _ s
  · exact ends_ok _ s _

theorem execCfgSet_ends (r : Nat) (x : BitVec 48) (s : State) : Ends s (execCfgSet r x s) := by
  unfold execCfgSet
  split
  · exact ends_raiseState _ _ s
  · split
    · exact ends_raiseState _ _ s
    · exact ends_ok _ s _

/-- A failed CFG.COMMIT is the one error that writes more than its record (44 R263, 60 R295). -/
theorem execCfgCommit_ends (s : State) : Ends s (execCfgCommit s) := by
  unfold execCfgCommit
  split
  · exact ends_raiseState _ _ s
  · split
    · exact ends_ok _ s _
    · refine ⟨_, rfl, .inr fun r hr _ => ?_⟩
      cases hr
      rfl

theorem execRxRun_ends (s : State) : Ends s (execRxRun s) := by
  unfold execRxRun
  split
  · exact ends_raiseState _ _ s
  · exact ends_ok _ s _

theorem execSyncSend_ends (d : PeerId) (s : State) : Ends s (execSyncSend d s) := by
  unfold execSyncSend
  split_ifs
  · exact ends_raiseState _ _ s
  · exact ends_raise _ _ _ _ s
  · exact ends_ok _ s _

theorem execTxAbort_ends (s : State) : Ends s (execTxAbort s) := by
  unfold execTxAbort
  split
  · exact ends_raiseState _ _ s
  · exact ends_ok _ s _

/-! ## The receiver -/

/-- A frame is refused when its peer finds a table full, and answered with a result otherwise (43 R223, R228, R229). -/
theorem receiveFrame_refused_or_completed (x : FrameVal) (s : State) :
    Refused s (receiveFrame x s) ∨ Completed (receiveFrame x s) := by
  cases x with
  | data src dst seq payload =>
    show Refused s (receiveData src seq payload s) ∨ Completed (receiveData src seq payload s)
    rcases receiveData_cases src seq payload s with h | ⟨-, h | h⟩ <;> rw [h]
    · exact .inl (refused_raise rfl _ _ _ _)
    · exact .inr (completed_respond rfl _ _)
    · exact .inr (completed_respond rfl _ _)
  | ack src dst ack =>
    show Refused s (receiveAck src ack s) ∨ Completed (receiveAck src ack s)
    rcases receiveAck_cases src ack s with ⟨-, h⟩ | ⟨-, h⟩ <;> rw [h]
    · exact .inl (refused_raise rfl _ _ _ _)
    · exact .inr (completed_respond rfl _ _)
  | sync src dst => exact .inr (completed_respond rfl _ _)

theorem receiveFrame_ends (x : FrameVal) (s : State) : Ends s (.next (receiveFrame x s)) :=
  ⟨_, rfl, receiveFrame_refused_or_completed x s⟩

/-- The hidden state plays no part in a refusal. -/
theorem Refused.of_hidden (hv : v = { s with hid := v.hid }) (h : Refused v t) : Refused s t := by
  obtain ⟨rec, ht⟩ := h
  rw [hv] at ht
  exact ⟨rec, ht⟩

theorem receiveDatagram_ends (d : Bytes) (s : State) : Ends s (.next (receiveDatagram d s)) := by
  refine ⟨_, rfl, ?_⟩
  rcases receiveDatagram_cases d s with ⟨-, h⟩ | ⟨-, -, ⟨e, -, h⟩ | ⟨x, -, -, h⟩ | ⟨x, -, -, h⟩⟩ <;> rw [h]
  · exact .inl (refused_raise rfl _ _ _ _)
  · exact .inl (refused_raise (received_eq d s) _ _ _ _)
  · exact .inl (refused_raise (received_eq d s) _ _ _ _)
  · exact (receiveFrame_refused_or_completed x _).imp_left (Refused.of_hidden (received_eq d s))

/-! ## Operations that pull nothing from SRC -/

/-- The operations that fill slots from SRC (42 R181). -/
def pullsSource : Instr → Bool
  | .txStart _ | .txPoll _ | .txSlide _ => true
  | _ => false

theorem exec_ends (hi : pullsSource i = false) (s : State) : Ends s (exec i s) := by
  cases i with
  | txStart | txPoll | txSlide => cases hi
  | cfgSet r x => exact execCfgSet_ends r x s
  | cfgCommit => exact execCfgCommit_ends s
  | csrRead r => exact execCsrRead_ends r s
  | rxRun => exact execRxRun_ends s
  | syncSend d => exact execSyncSend_ends d s
  | txAbort => exact execTxAbort_ends s
  | crcChk d => exact execCrcChk_ends d s
  | encData src dst seq payload => exact execEncData_ends src dst seq payload s
  | encAck src dst ack => exact execEncAck_ends src dst ack s
  | encSync src dst => exact execEncSync_ends src dst s
  | dec d => exact execDec_ends d s
  | rxData src dst seq payload => exact receiveFrame_ends (.data src dst seq payload) s
  | rxAck src dst ack => exact receiveFrame_ends (.ack src dst ack) s
  | rxSync src dst => exact receiveFrame_ends (.sync src dst) s
  | rxDgram | frameData | frameAck | frameSync => exact receiveDatagram_ends _ s
  | reset | rxStop | crc16 | crcInit | crcByte | txTochk | ackPost | ackDrain => exact ends_ok _ s _

/-! ## Operations that fill slots -/

/-- The results of a poll that runs, each with the sequence number and the slot status that its record names
(42 R200). -/
inductive PollResult : Status → Value → Option Nat → Option SlotStatus → Prop
  | done (a : Nat) : PollResult .pollDone (.number a) none none
  | rewind (b : Nat) : PollResult .pollRewind (.number b) (some b) none
  | idle : PollResult .pollIdle .none none none
  | skip (k : Nat) : PollResult .pollSkip (.number k) (some k) none
  | sent (k : Nat) (c : SlotStatus) : PollResult .pollSent (.sent k c) (some k) (some c)

/-- `t` has logged nothing since `s` and is sending to the same peer. -/
structure Unlogged (s t : State) : Prop where
  log : t.log = s.log
  dest : t.tx.dest = s.tx.dest

theorem Unlogged.trans (h : Unlogged s t) (k : Unlogged t v) : Unlogged s v :=
  ⟨k.log.trans h.log, k.dest.trans h.dest⟩

/-- `t` is what a poll makes of `s` by returning one of its results, the log and the peer being those of `s`. -/
def PollReturns (ack : Option Nat) (s t : State) : Prop :=
  ∃ st x seq slot v, PollResult st x seq slot ∧ t = pollReturn st x seq slot ack v ∧ Unlogged s v

theorem PollReturns.of_unlogged {ack : Option Nat} (h : Unlogged s v) (k : PollReturns ack v t) : PollReturns ack s t := by
  obtain ⟨st, x, seq, slot, v', hres, ht, hv⟩ := k
  exact ⟨st, x, seq, slot, v', hres, ht, h.trans hv⟩

theorem noteExhaustion_unlogged (s : State) : Unlogged s (noteExhaustion s) := by
  rw [noteExhaustion_eq]
  exact ⟨rfl, rfl⟩

theorem normalise_unlogged (dAck dCur : Nat) (s : State) : Unlogged s (normalise dAck dCur s) := by
  unfold normalise
  split
  · exact ⟨rfl, rfl⟩
  · exact ⟨rfl, rfl⟩

theorem pollSend_returns (now : Nat) (ack : Option Nat) (s : State) : PollReturns ack s (pollSend now ack s) := by
  by_cases hc : s.tx.cursor = s.tx.unusedPoint
  · exact ⟨_, _, _, _, _, .idle, pollSend_of_caughtUp hc, ⟨rfl, rfl⟩⟩
  · cases hv : (s.slot s.tx.cursor).valid with
    | false => exact ⟨_, _, _, _, _, .skip _, pollSend_of_empty hc hv, ⟨rfl, rfl⟩⟩
    | true => exact ⟨_, _, _, _, _, .sent _ _, pollSend_of_valid hc hv, ⟨rfl, rfl⟩⟩

theorem pollRewind_returns (oldC dAck dCur : Nat) (ack : Option Nat) (s : State) :
    PollReturns ack s (pollRewind oldC dAck dCur ack s) :=
  ⟨_, _, _, _, _, .rewind _, pollRewind_eq oldC dAck dCur ack s, ⟨rfl, rfl⟩⟩

/-- Once the slide is made a poll returns one of its results (42 R192 to R200). -/
theorem pollAfterSlide_returns (now oldC dAck dCur : Nat) (ack : Option Nat) (s : State) :
    PollReturns ack s (pollAfterSlide now oldC dAck dCur ack s) := by
  cases hterm : isTerminal ack s with
  | true => exact ⟨_, _, _, _, _, .done _, pollAfterSlide_of_terminal hterm, ⟨rfl, rfl⟩⟩
  | false =>
    by_cases hu : Spec.unhealthy now s
    · rw [pollAfterSlide_of_unhealthy hterm hu]
      exact (pollRewind_returns _ _ _ _ _).of_unlogged (noteExhaustion_unlogged s)
    · rw [pollAfterSlide_of_healthy hterm hu]
      exact (pollSend_returns _ _ _).of_unlogged ((noteExhaustion_unlogged s).trans (normalise_unlogged _ _ _))

theorem slideTo_unlogged {a : Nat} (h : slideTo a s = .ok t) : Unlogged s t := by
  obtain ⟨t1, -, hf, rfl⟩ := slideTo_cases h
  refine ⟨hf.log, ?_⟩
  show t1.tx.dest = s.tx.dest
  rw [hf.tx]

theorem pollBegin_unlogged (s : State) : Unlogged s (pollBegin s) := by
  refine ⟨?_, congrArg Sender.dest (pollBegin_sameRegisters s).tx⟩
  unfold pollBegin
  cases postedAck s with
  | none => rfl
  | some a => exact noteNumber_log a s

/-- TX.POLL is refused, or returns one of its results (42 R200). -/
theorem execTxPoll_returns {now : Nat} (h : execTxPoll now s = .next t) :
    t = refusePoll s ∨ ∃ ack, PollReturns ack s t := by
  rcases execTxPoll_cases h with rfl | ⟨-, -, s1, dAck, dCur, h1, rfl⟩
  · exact .inl rfl
  · have hslid : Unlogged s s1 := by
      rcases pollSlide_cases h1 with rfl | ⟨a, -, hslide⟩
      · exact pollBegin_unlogged s
      · exact (pollBegin_unlogged s).trans (slideTo_unlogged hslide)
    exact .inr ⟨_, (pollAfterSlide_returns _ _ _ _ _ s1).of_unlogged hslid⟩

theorem PollResult.isError_eq_false {st : Status} {x : Value} {seq : Option Nat} {slot : Option SlotStatus}
    (h : PollResult st x seq slot) : isError st = false := by
  cases h with
  | done | rewind | idle | skip | sent => rfl

theorem PollReturns.completed {ack : Option Nat} (h : PollReturns ack s t) : Completed t := by
  obtain ⟨st, x, seq, slot, v, hres, rfl, -⟩ := h
  exact completed_respond hres.isError_eq_false _ _

/-- Whatever operation goes on, it is refused or completed. -/
theorem exec_refused_or_completed (h : exec i s = .next t) : Refused s t ∨ Completed t := by
  cases hi : pullsSource i with
  | false =>
    obtain ⟨t', ht, hend⟩ := exec_ends hi s
    cases h.symm.trans ht
    exact hend
  | true =>
    cases i with
    | txStart d =>
      rcases execTxStart_cases h with ⟨st, info, rfl⟩ | ⟨-, -, -, s1, -, rfl⟩
      · exact .inl (refused_raise rfl _ _ _ _)
      · exact .inr (completed_respond rfl _ _)
    | txPoll now =>
      rcases execTxPoll_returns h with rfl | ⟨ack, hret⟩
      · exact .inl (refused_raise rfl _ _ _ _)
      · exact .inr hret.completed
    | txSlide a =>
      obtain ⟨s1, -, rfl⟩ := execTxSlide_cases h
      exact .inr (completed_respond rfl _ _)
    | _ => cases hi

/-- Settles O49: an error other than ConfigurationError is the answer of a refusal. -/
theorem errorsWriteNothing : Obligations.ErrorsWriteNothing := by
  unfold Obligations.ErrorsWriteNothing
  intro i s t r h hr he hne
  rcases exec_refused_or_completed h with ⟨rec, ht⟩ | hcompleted
  · have hresp : some { line := s.line, status := rec.status, value := .none } = some r :=
      (congrArg State.resp ht).symm.trans hr
    cases hresp
    exact ⟨rec, rfl, rfl, rfl, ht⟩
  · exact absurd (hcompleted r hr he) hne

/-! ## Nothing stops while SRC keeps its contract -/

theorem exec_txStart_goesOn (h : srcKeepsContract s = true) (d : PeerId) : ∃ t, exec (.txStart d) s = .next t := by
  obtain ⟨s1, h1⟩ := refill_ok (is := cycFrom s.n s.initSeq s.w) (s := startRegisters d s)
    (chunk_le_of_srcKeepsContract h :)
  simp only [exec, execTxStart, h1]
  split_ifs
  all_goals exact ⟨_, rfl⟩

/-- Moving the counter of free values leaves SRC within its contract. -/
theorem chunk_le_noteNumber (h : srcKeepsContract s = true) (a : Nat) :
    ∀ c, SrcAnswer.chunk c ∈ (noteNumber a s).src → c.length ≤ (noteNumber a s).maxp := by
  rw [noteNumber_src, maxp_of_cfg (noteNumber_cfg a s)]
  exact chunk_le_of_srcKeepsContract h

theorem exec_txSlide_goesOn (h : srcKeepsContract s = true) (a : Nat) : ∃ t, exec (.txSlide a) s = .next t := by
  obtain ⟨s1, h1⟩ := slideTo_ok (a := numberTaken a s) (chunk_le_noteNumber h a)
  exact ⟨_, exec_txSlide_of_slideTo h1⟩

theorem exec_txPoll_goesOn (h : srcKeepsContract s = true) (now : Nat) : ∃ t, exec (.txPoll now) s = .next t := by
  by_cases hmay : Spec.mayPoll s
  · cases hack : Spec.ackFor s with
    | none => exact ⟨_, exec_txPoll_of_none hmay hack now⟩
    | some a =>
      obtain ⟨s1, h1⟩ := slideTo_ok (a := numberTaken a s) (s := drainAcks (noteNumber a s))
        (chunk_le_noteNumber h a :)
      exact ⟨_, exec_txPoll_of_some hmay hack h1 now⟩
  · exact ⟨_, exec_txPoll_of_not_mayPoll hmay now⟩

/-- Settles O52: the operations that pull from SRC find no oversize chunk, and the others cannot stop. -/
theorem nothingStopsWithinTheContracts : Obligations.NothingStopsWithinTheContracts := by
  unfold Obligations.NothingStopsWithinTheContracts
  intro i s hsrc
  cases hi : pullsSource i with
  | false =>
    obtain ⟨t, ht, -⟩ := exec_ends hi s
    exact ⟨t, ht⟩
  | true =>
    cases i with
    | txStart d => exact exec_txStart_goesOn hsrc d
    | txPoll now => exact exec_txPoll_goesOn hsrc now
    | txSlide a => exact exec_txSlide_goesOn hsrc a
    | _ => cases hi

end Sys2Proof.Proofs
end

section
/-! One LOG record a decision (60 R315; 42 R191, R200): polls, datagrams and SYNC.SEND write one record with the status
returned, and an operation whose peer is known beforehand names it. -/

namespace Sys2Proof.Proofs

open Sys2Proof.Machine

variable {s t v : State} {i : Instr} {rec : LogRecord}

/-! ## One record, one status -/

/-- From `s` to `t` exactly the record `rec` is logged, and its status is the one returned (60 R315). -/
structure Logs (rec : LogRecord) (s t : State) : Prop where
  log : t.log = s.log ++ [rec]
  status : ∃ r, t.resp = some r ∧ rec.status = r.status

/-- A decision about `p`: one record, which names `p`. -/
def Decides (p : PeerId) (s t : State) : Prop := ∃ rec, Logs rec s t ∧ rec.subject.peer = some p

theorem logs_raise (op : Byte) (st : Status) (info : LogInfo) (about : LogSubject) (s : State) :
    Logs { op := op, status := st, info := info, subject := about } s (raise op st info about s) :=
  ⟨rfl, _, rfl, rfl⟩

theorem logs_respond (op : Byte) (st : Status) (info : LogInfo) (about : LogSubject) (x : Value) (s : State) :
    Logs { op := op, status := st, info := info, subject := about } s (respond st x (writeLog op st info about s)) :=
  ⟨rfl, _, rfl, rfl⟩

/-- What an operation writes before its record does not count while it leaves the log. -/
theorem Logs.of_log_eq (h : Logs rec v t) (hv : v.log = s.log) : Logs rec s t := ⟨hv ▸ h.log, h.status⟩

theorem Decides.of_log_eq {p : PeerId} (h : Decides p v t) (hv : v.log = s.log) : Decides p s t := by
  obtain ⟨rec, hlogs, hpeer⟩ := h
  exact ⟨rec, hlogs.of_log_eq hv, hpeer⟩

/-- Every record an operation about `p` has written is the one of its decision. -/
theorem Decides.peer_eq {p : PeerId} (h : Decides p s t) {recs : List LogRecord} (hrecs : t.log = s.log ++ recs) :
    ∀ rec ∈ recs, rec.subject.peer = some p := by
  obtain ⟨rec, hlogs, hpeer⟩ := h
  have hone : recs = [rec] := List.append_cancel_left (hrecs.symm.trans hlogs.log)
  rw [hone]
  exact List.forall_mem_singleton.2 hpeer

/-! ## The receiver and SYNC.SEND -/

/-- The answer to a Data frame is a decision about its source (43 R223). -/
theorem answerData_decides (result : Status) (src : PeerId) (seq e av : Nat) (s : State) :
    Decides src s (answerData result src seq e av s) :=
  ⟨_, (logs_respond _ _ _ _ _ _).of_log_eq rfl, rfl⟩

/-- A frame is one decision about its source, refused or not (43 R223, R228, R229; 60 R301). -/
theorem receiveFrame_decides (x : FrameVal) (s : State) : Decides (frameSrc x) s (receiveFrame x s) := by
  cases x with
  | data src dst seq payload =>
    show Decides src s (receiveData src seq payload s)
    rcases receiveData_cases src seq payload s with h | ⟨-, h | h⟩ <;> rw [h]
    · exact ⟨_, logs_raise _ _ _ _ s, rfl⟩
    · exact (answerData_decides _ _ _ _ _ _).of_log_eq rfl
    · exact (answerData_decides _ _ _ _ _ _).of_log_eq rfl
  | ack src dst ack =>
    show Decides src s (receiveAck src ack s)
    rcases receiveAck_cases src ack s with ⟨-, h⟩ | ⟨-, h⟩ <;> rw [h]
    · exact ⟨_, logs_raise _ _ _ _ s, rfl⟩
    · exact ⟨_, (logs_respond _ _ _ _ _ _).of_log_eq (noteNumber_log ack s), rfl⟩
  | sync src dst => exact ⟨_, (logs_respond _ _ _ _ _ _).of_log_eq rfl, rfl⟩

theorem receiveDatagram_logs (d : Bytes) (s : State) : ∃ rec, Logs rec s (receiveDatagram d s) := by
  have hlog : (decTrace d (loadRxbuf d s)).log = s.log := by rw [received_eq]
  rcases receiveDatagram_cases d s with ⟨-, h⟩ | ⟨-, -, ⟨e, -, h⟩ | ⟨x, -, -, h⟩ | ⟨x, -, -, h⟩⟩ <;> rw [h]
  · exact ⟨_, logs_raise _ _ _ _ s⟩
  · exact ⟨_, (logs_raise _ _ _ _ _).of_log_eq hlog⟩
  · exact ⟨_, (logs_raise _ _ _ _ _).of_log_eq hlog⟩
  · obtain ⟨rec, hrec, -⟩ := receiveFrame_decides x (decTrace d (loadRxbuf d s))
    exact ⟨rec, hrec.of_log_eq hlog⟩

theorem execSyncSend_decides {d : PeerId} (h : execSyncSend d s = .next t) : Decides d s t := by
  unfold execSyncSend at h
  split_ifs at h <;> cases h
  · exact ⟨_, logs_raise _ _ _ _ s, rfl⟩
  · exact ⟨_, logs_raise _ _ _ _ s, rfl⟩
  · exact ⟨_, (logs_respond _ _ _ _ _ _).of_log_eq rfl, rfl⟩

/-! ## The sender -/

/-- A poll names `dest`, and one that sends the number and the slot status it returns (42 R200). -/
theorem execTxPoll_logs {now : Nat} (h : execTxPoll now s = .next t) :
    ∃ rec, Logs rec s t ∧ rec.subject.peer = some s.tx.dest ∧
      ∀ k c, rec.status = .pollSent → t.resp.map Response.value = some (.sent k c) →
        rec.subject.seq = some k ∧ rec.subject.slot = some c := by
  rcases execTxPoll_returns h with rfl | ⟨ack, st, x, seq, slot, v, hres, rfl, hv⟩
  · exact ⟨_, logs_raise _ _ _ _ s, rfl, fun k c hsent => by cases hsent⟩
  · refine ⟨_, (logs_respond _ _ _ _ _ _).of_log_eq hv.log, congrArg some hv.dest, fun k c _ hval => ?_⟩
    have hx : x = .sent k c := Option.some.inj hval
    subst hx
    cases hres
    exact ⟨rfl, rfl⟩

theorem execTxPoll_decides {now : Nat} (h : execTxPoll now s = .next t) : Decides s.tx.dest s t := by
  obtain ⟨rec, hlogs, hpeer, -⟩ := execTxPoll_logs h
  exact ⟨rec, hlogs, hpeer⟩

/-- A poll that may run leaves the ack table empty (42 R191). -/
theorem exec_txPoll_ackTab {now : Nat} (hmay : Spec.mayPoll s) (h : exec (.txPoll now) s = .next t) : t.ackTab = [] := by
  obtain ⟨s1, dAck, dCur, h1, rfl⟩ := exec_txPoll_runs hmay h
  obtain ⟨-, -, -, hack, -⟩ := pollSlide_keeps h1
  rcases pollAfterSlide_cases now s.tx.cursor dAck dCur ((postedAck s).map (numberTaken · s)) s1 with hk | hk
  · exact hk.ackTab.trans hack
  · rw [noteExhaustion_eq] at hk
    exact hk.ackTab.trans hack

/-- TX.START writes a record only when it is refused, and then names the peer asked for (42 R182). -/
theorem execTxStart_decides_or_silent {d : PeerId} (h : execTxStart d s = .next t) : Decides d s t ∨ t.log = s.log := by
  rcases execTxStart_cases h with ⟨st, info, rfl⟩ | ⟨-, -, -, s1, h1, rfl⟩
  · exact .inl ⟨_, logs_raise _ _ _ _ s, rfl⟩
  · exact .inr (refill_frame h1).log

/-! ## Every operation -/

theorem exec_logs (hi : (∃ n, i = .txPoll n) ∨ Spec.takesDatagram i = true ∨ ∃ d, i = .syncSend d)
    (h : exec i s = .next t) : ∃ rec, Logs rec s t := by
  rcases hi with ⟨now, rfl⟩ | hd | ⟨d, rfl⟩
  · obtain ⟨rec, hlogs, -⟩ := execTxPoll_logs h
    exact ⟨rec, hlogs⟩
  · obtain ⟨d, rfl⟩ := exec_of_takesDatagram hd h
    exact receiveDatagram_logs d s
  · obtain ⟨rec, hlogs, -⟩ := execSyncSend_decides h
    exact ⟨rec, hlogs⟩

theorem exec_decides_or_silent {p : PeerId} (hp : Spec.peerOfDecision i s = some p) (h : exec i s = .next t) :
    Decides p s t ∨ t.log = s.log := by
  cases i with
  | txPoll now => cases hp; exact .inl (execTxPoll_decides h)
  | syncSend d => cases hp; exact .inl (execSyncSend_decides h)
  | txStart d => cases hp; exact execTxStart_decides_or_silent h
  | rxData _ dst seq payload => cases hp; cases h; exact .inl (receiveFrame_decides (.data p dst seq payload) s)
  | rxAck _ dst ack => cases hp; cases h; exact .inl (receiveFrame_decides (.ack p dst ack) s)
  | rxSync _ dst => cases hp; cases h; exact .inl (receiveFrame_decides (.sync p dst) s)
  | _ => cases hp

/-- Settles O51: a decision writes its one record, and a TX.START that is not refused writes none. -/
theorem oneLogRecordPerDecision : Obligations.OneLogRecordPerDecision := by
  unfold Obligations.OneLogRecordPerDecision
  intro i s t h
  refine ⟨fun hi => ?_, fun p recs hp hrecs => ?_, ?_, ?_⟩
  · obtain ⟨rec, hlog, r, hr, hst⟩ := exec_logs hi h
    exact ⟨rec, r, hlog, hr, hst⟩
  · rcases exec_decides_or_silent hp h with hd | hlog
    · exact hd.peer_eq hrecs
    · have hnone : recs = [] := List.append_right_eq_self.1 (hrecs.symm.trans hlog)
      rw [hnone]
      exact List.forall_mem_nil _
  · rintro ⟨now, rfl⟩
    obtain ⟨rec, hlogs, -, hsent⟩ := execTxPoll_logs h
    exact ⟨rec, hlogs.log, hsent⟩
  · rintro hmay ⟨now, rfl⟩
    exact exec_txPoll_ackTab hmay h

end Sys2Proof.Proofs
end

section
/-! Reset and the unconfigured core (70 R330 to R333): what RESET leaves in the registers and the slots, that every
invariant holds of the core it leaves, and the refusals until the first commit. -/

namespace Sys2Proof.Proofs

open Sys2Proof.Machine

variable {s : State}

/-! ## RESET (70 R330, R331) -/

theorem exec_reset (s : State) : exec .reset s = .next (respond .ok .none (resetCore s)) := rfl

/-- A reset slot file lists no slot, and a slot that is not listed is blank. -/
theorem slot_resetCore (s : State) (i : Nat) : (resetCore s).slot i = Slot.blank := rfl

/-- The register map depends on the configuration, the control bits and the sender alone, and each is zeroed. -/
theorem registers_resetCore_eq_zero (s : State) : ∀ e ∈ Spec.registers (resetCore s), e.2 = 0 := by
  simp [Spec.registers, CfgRegs.reset, Control.reset, Sender.reset]

theorem csrValue_resetCore (s : State) : ∀ e ∈ Spec.registers (resetCore s), csrValue (resetCore s) e.1 = some 0 := by
  intro e he
  rw [csrValue_of_mem_registers _ e he, registers_resetCore_eq_zero s e he]
  rfl

/-- Settles O17: the answer written after the reset touches neither a slot nor a register. -/
theorem resetGivesTheResetValues : Obligations.ResetGivesTheResetValues := by
  unfold Obligations.ResetGivesTheResetValues
  intro s
  refine ⟨_, exec_reset s, rfl, fun i => ?_, fun e he => exec_csrRead_of_some (csrValue_resetCore s e he)⟩
  show Spec.isEmpty ((resetCore s).slot i) ∧ ((resetCore s).slot i).sendTime = 0
  rw [slot_resetCore]
  exact ⟨isEmpty_blank, rfl⟩

/-! ## The invariants after RESET -/

/-- `Inv` in the words of the step lemmas. -/
theorem inv_iff (s : State) :
    Machine.Inv s = true ↔ SenderSound s ∧ TablesInRange s ∧ FillWindowFull s ∧ SlotsHoldTheirFrames s := by
  have hparts : Machine.Inv s = true ↔ (canonical s = true ∧ configLegal s = true ∧ windowInRange s = true) ∧
      tablesInRange s = true ∧ fillWindowFull s = true ∧ slotsHoldTheirFrames s = true := by
    simp only [Machine.Inv, Bool.and_eq_true, and_assoc]
  rw [hparts, ← senderSound_iff, tablesInRange_iff, fillWindowFull_iff]
  exact and_congr_right fun hs => by rw [slotsHoldTheirFrames_iff hs.slotsWf]

/-- An unconfigured, stopped core in IDLE owes nothing of its window. -/
theorem senderSound_resetCore (s : State) : SenderSound (resetCore s) where
  canonical := rfl
  legal := configLegal_of_unconfigured rfl rfl rfl rfl
  window hv := absurd hv Bool.false_ne_true

theorem tablesInRange_resetCore (s : State) : TablesInRange (resetCore s) where
  rxTab _ := List.forall_mem_nil _
  ackTab _ := List.forall_mem_nil _
  room _ _ := Nat.zero_le _

/-- RESET establishes every invariant, in whatever state it is issued. -/
theorem inv_resetCore (s : State) : Machine.Inv (resetCore s) = true := by
  have hfill : FillWindowFull (resetCore s) := fun h => nomatch h
  have hframes : SlotsHoldTheirFrames (resetCore s) := fun h => nomatch h
  exact (inv_iff _).2 ⟨senderSound_resetCore s, tablesInRange_resetCore s, hfill, hframes⟩

/-- Settles O53: the state after power-on is one that RESET leaves as it is. -/
theorem resetMeetsEveryInvariant : Obligations.ResetMeetsEveryInvariant := by
  unfold Obligations.ResetMeetsEveryInvariant
  have hfixed : resetCore State.reset = State.reset := rfl
  rw [← hfixed]
  exact inv_resetCore State.reset

/-! ## The unconfigured core (70 R333) -/

theorem not_mayPoll_of_unconfigured (hv : s.ctl.cfgValid = false) : ¬ Spec.mayPoll s :=
  not_mayPoll_iff.1 (.inl hv)

/-- An unconfigured core refuses a datagram unread (43 R221). -/
theorem receiveDatagram_of_unconfigured (hv : s.ctl.cfgValid = false) (d : Bytes) :
    receiveDatagram d s = raiseState 0x20 {} s :=
  if_pos (.inl hv)

/-- Settles O18: each protocol operation tests CFG_VALID before anything else. -/
theorem unconfiguredCoreRefusesProtocolOperations : Obligations.UnconfiguredCoreRefusesProtocolOperations := by
  unfold Obligations.UnconfiguredCoreRefusesProtocolOperations
  intro s hv
  have hpoll : ¬ Spec.mayPoll s := not_mayPoll_of_unconfigured hv
  exact ⟨if_pos hv, fun _ => if_pos hv, fun _ => if_pos hv, exec_txPoll_of_not_mayPoll hpoll,
    exec_txAbort_of_not_mayPoll hpoll, fun d => congrArg Host.Outcome.next (receiveDatagram_of_unconfigured hv d),
    fun _ _ _ _ => if_pos hv, fun _ _ _ => if_pos hv, fun _ _ => if_pos hv, fun _ => if_pos hv⟩

end Sys2Proof.Proofs
end
